-- ==== Sys2Proof/Word.lean ====
section
/-! DEFINITION. The two word types of the hardware: an 8-bit byte (`XLEN8`, rule R8) and a 16-bit word,
which is also an address (`ALEN`, rule R8). -/

namespace Sys2Proof

/-- An 8-bit value: a general register, a memory cell (R8, R20, R34). -/
abbrev Byte := BitVec 8

/-- A 16-bit value: `SP`, `PC`, a register pair, an address (R8, R24, R25, R34). -/
abbrev Word := BitVec 16

end Sys2Proof
end

