-- ==== Sys2Proof/Machine/Bits.lean ====
section
/-! DEFINITION. Byte order, bit fields and sign extension (rules R9 to R13, R101): the helpers that the decoder, the
memory accesses and the instructions share. -/

namespace Sys2Proof.Machine

/-- `hi:lo`, the 16-bit value with `hi` in bits 15..8 (R9, R21, R102). -/
def mkWord (hi lo : Byte) : Word := hi ++ lo

/-- `v[15:8]` (R9). -/
def hiByte (v : Word) : Byte := v.extractLsb' 8 8

/-- `v[7:0]` (R9). -/
def loByte (v : Word) : Byte := v.extractLsb' 0 8

/-- `sext_16(b)`: `b` when `b[7] = 0`, `$FF00 | b` when `b[7] = 1` (R12). -/
def sext16 (b : Byte) : Word := if b.getLsbD 7 then mkWord 0xFF b else mkWord 0x00 b

/-- The field `x = op >> 6` of an opcode byte (R101). -/
def fieldX (op : Byte) : Nat := (op >>> 6).toNat

/-- The field `y = (op >> 3) & 7` (R101). -/
def fieldY (op : Byte) : Nat := ((op >>> 3) &&& 7).toNat

/-- The field `z = op & 7` (R101). -/
def fieldZ (op : Byte) : Nat := (op &&& 7).toNat

/-- The field `p = y >> 1` (R101). -/
def fieldP (op : Byte) : Nat := fieldY op >>> 1

/-- The field `q = y & 1` (R101). -/
def fieldQ (op : Byte) : Nat := fieldY op &&& 1

end Sys2Proof.Machine
end

