-- ==== Sys2Proof/Config.lean ====
section
/-! DEFINITION. What is fixed for one machine and is not state (rule R8): the cartridge a machine is built from,
the size of the cartridge RAM, and what a cell that no write has touched reads as. The parameter `HALT_BUG` is
false (D5; log 5), so nothing here names it; the parameter `CYCLES` is an argument of its own (Machine/CycleTable.lean; D8; log 4). -/

namespace Sys2Proof

/-- What `LoadROM` is given (R8, R86): the cartridge image `ROM`, first byte at offset 0, and the parameter
`ROM_BANKS`. `ROM_LEN` is the length of the image, `CART_TYPE` its byte at offset `$0147`. -/
structure Cartridge where
  /-- `ROM`: "a flat byte sequence; first 16 KiB = bank 0" (R8). -/
  image : List Byte
  /-- `ROM_BANKS`: "the ROM size in banks (power-of-two modulus)" (R8, D11). -/
  banks : Nat
deriving DecidableEq, Repr

namespace Config

/-- `CART_RAM_SIZE`: 32768 bytes, for every cartridge type (R8, R37, D12). DESIGN CHOICE of the spec, log 13. -/
def cartRamSize : Nat := 0x8000

/-- What an unlisted cell of a RAM array or of the I/O file reads as: its reset contents (R36, R37, R38, R380). -/
def ramUnlisted : Byte := 0x00

/-- What an unlisted byte of the cartridge image reads as: the value of absent ROM (R65). -/
def romUnlisted : Byte := 0xFF

end Config
end Sys2Proof
end

