-- ==== Sys2Proof/WellFormed.lean ====
section
/-! DEFINITION. What makes an instruction and a cartridge well formed.

An operand of an instruction is a field of exactly the width its encoding gives it, and every register, pair,
condition and bit number is part of the constructor's name, so EVERY term of `Instr` has an encoding (R100 to R112):
`Instr.wf` asks nothing. The checks that can fail are those on what a machine is built from: the cartridge type
(R5, R86, D23) and the bank count (R8, D11). -/

namespace Sys2Proof

/-- Every term of `Instr` is well formed: its fields cannot hold a value that the encoding does not admit. -/
def Instr.wf (_ : Instr) : Bool := true

/-- `ROM[$0147] ∈ {$00,$01,$02,$03}`; an image too short to hold the byte has no supported type (R5, R86, D23). -/
def Cartridge.typeOk (c : Cartridge) : Bool :=
  match c.image[0x0147]? with
  | some t => t == 0x00 || t == 0x01 || t == 0x02 || t == 0x03
  | none => false

/-- `ROM_BANKS` is "a power of two, at least 2" (R8, D11). -/
def Cartridge.banksOk (c : Cartridge) : Bool :=
  decide (2 ≤ c.banks) && (c.banks &&& (c.banks - 1)) == 0

/-- A cartridge a machine can be built from (R86). -/
def Cartridge.wf (c : Cartridge) : Bool := c.typeOk && c.banksOk

end Sys2Proof
end

