-- ==== Sys2Proof/Decode.lean ====
section
/-! DEFINITION. Decoding and encoding (spec/30_encoding.md).

The decoder follows the FIELDS of rules R101 and R103 to R112: the operand tables `r8`, `rp`, `rp2`, `cc`, `alu`, `rot`
turn bit fields into operand names, a family constructor turns the operand names into the row's constructor of
`Instr`, and `decodeBase` and `decodeCB` are the tables of rules R110 and R111. The encoder is written from the flat
map of rule R118 and the `match` column of spec/opcode_table.json instead, so that the round trip says something. -/

namespace Sys2Proof

open Sys2Proof.Machine

/-! Family constructors: the row of each family of rules R110 to R112 for given operands. -/

/-- `LD r,r'` (R140). -/
def Instr.ldRegReg : Reg8 → Reg8 → Instr
  | .b, .b => .ldBB
  | .b, .c => .ldBC
  | .b, .d => .ldBD
  | .b, .e => .ldBE
  | .b, .h => .ldBH
  | .b, .l => .ldBL
  | .b, .a => .ldBA
  | .c, .b => .ldCB
  | .c, .c => .ldCC
  | .c, .d => .ldCD
  | .c, .e => .ldCE
  | .c, .h => .ldCH
  | .c, .l => .ldCL
  | .c, .a => .ldCA
  | .d, .b => .ldDB
  | .d, .c => .ldDC
  | .d, .d => .ldDD
  | .d, .e => .ldDE
  | .d, .h => .ldDH
  | .d, .l => .ldDL
  | .d, .a => .ldDA
  | .e, .b => .ldEB
  | .e, .c => .ldEC
  | .e, .d => .ldED
  | .e, .e => .ldEE
  | .e, .h => .ldEH
  | .e, .l => .ldEL
  | .e, .a => .ldEA
  | .h, .b => .ldHB
  | .h, .c => .ldHC
  | .h, .d => .ldHD
  | .h, .e => .ldHE
  | .h, .h => .ldHH
  | .h, .l => .ldHL
  | .h, .a => .ldHA
  | .l, .b => .ldLB
  | .l, .c => .ldLC
  | .l, .d => .ldLD
  | .l, .e => .ldLE
  | .l, .h => .ldLH
  | .l, .l => .ldLL
  | .l, .a => .ldLA
  | .a, .b => .ldAB
  | .a, .c => .ldAC
  | .a, .d => .ldAD
  | .a, .e => .ldAE
  | .a, .h => .ldAH
  | .a, .l => .ldAL
  | .a, .a => .ldAA

/-- `LD r,(HL)` (R141). -/
def Instr.ldRegAtHl : Reg8 → Instr
  | .b => .ldBAtHl
  | .c => .ldCAtHl
  | .d => .ldDAtHl
  | .e => .ldEAtHl
  | .h => .ldHAtHl
  | .l => .ldLAtHl
  | .a => .ldAAtHl

/-- `LD (HL),r` (R142). -/
def Instr.ldAtHlReg : Reg8 → Instr
  | .b => .ldAtHlB
  | .c => .ldAtHlC
  | .d => .ldAtHlD
  | .e => .ldAtHlE
  | .h => .ldAtHlH
  | .l => .ldAtHlL
  | .a => .ldAtHlA

/-- `LD r,d8` (R143). -/
def Instr.ldRegD8 : Reg8 → Byte → Instr
  | .b, n => .ldBD8 n
  | .c, n => .ldCD8 n
  | .d, n => .ldDD8 n
  | .e, n => .ldED8 n
  | .h, n => .ldHD8 n
  | .l, n => .ldLD8 n
  | .a, n => .ldAD8 n

/-- `LD rp,d16` (R170). -/
def Instr.ldPairD16 : Reg16 → Word → Instr
  | .bc, w => .ldBcD16 w
  | .de, w => .ldDeD16 w
  | .hl, w => .ldHlD16 w
  | .sp, w => .ldSpD16 w

/-- `INC rp` (R180). -/
def Instr.incPair : Reg16 → Instr
  | .bc => .incBc
  | .de => .incDe
  | .hl => .incHl
  | .sp => .incSp

/-- `DEC rp` (R181). -/
def Instr.decPair : Reg16 → Instr
  | .bc => .decBc
  | .de => .decDe
  | .hl => .decHl
  | .sp => .decSp

/-- `ADD HL,rp` (R182). -/
def Instr.addHlPair : Reg16 → Instr
  | .bc => .addHlBc
  | .de => .addHlDe
  | .hl => .addHlHl
  | .sp => .addHlSp

/-- `INC r` (R190). -/
def Instr.incReg : Reg8 → Instr
  | .b => .incB
  | .c => .incC
  | .d => .incD
  | .e => .incE
  | .h => .incH
  | .l => .incL
  | .a => .incA

/-- `DEC r` (R192). -/
def Instr.decReg : Reg8 → Instr
  | .b => .decB
  | .c => .decC
  | .d => .decD
  | .e => .decE
  | .h => .decH
  | .l => .decL
  | .a => .decA

/-- The register and `(HL)` forms of the accumulator operations (R194 to R202). -/
def Instr.alu : AluOp → Operand8 → Instr
  | .add, .reg .b => .addAB
  | .add, .reg .c => .addAC
  | .add, .reg .d => .addAD
  | .add, .reg .e => .addAE
  | .add, .reg .h => .addAH
  | .add, .reg .l => .addAL
  | .add, .atHl => .addAAtHl
  | .add, .reg .a => .addAA
  | .adc, .reg .b => .adcAB
  | .adc, .reg .c => .adcAC
  | .adc, .reg .d => .adcAD
  | .adc, .reg .e => .adcAE
  | .adc, .reg .h => .adcAH
  | .adc, .reg .l => .adcAL
  | .adc, .atHl => .adcAAtHl
  | .adc, .reg .a => .adcAA
  | .sub, .reg .b => .subB
  | .sub, .reg .c => .subC
  | .sub, .reg .d => .subD
  | .sub, .reg .e => .subE
  | .sub, .reg .h => .subH
  | .sub, .reg .l => .subL
  | .sub, .atHl => .subAtHl
  | .sub, .reg .a => .subA
  | .sbc, .reg .b => .sbcAB
  | .sbc, .reg .c => .sbcAC
  | .sbc, .reg .d => .sbcAD
  | .sbc, .reg .e => .sbcAE
  | .sbc, .reg .h => .sbcAH
  | .sbc, .reg .l => .sbcAL
  | .sbc, .atHl => .sbcAAtHl
  | .sbc, .reg .a => .sbcAA
  | .and, .reg .b => .andB
  | .and, .reg .c => .andC
  | .and, .reg .d => .andD
  | .and, .reg .e => .andE
  | .and, .reg .h => .andH
  | .and, .reg .l => .andL
  | .and, .atHl => .andAtHl
  | .and, .reg .a => .andA
  | .xor, .reg .b => .xorB
  | .xor, .reg .c => .xorC
  | .xor, .reg .d => .xorD
  | .xor, .reg .e => .xorE
  | .xor, .reg .h => .xorH
  | .xor, .reg .l => .xorL
  | .xor, .atHl => .xorAtHl
  | .xor, .reg .a => .xorA
  | .or, .reg .b => .orB
  | .or, .reg .c => .orC
  | .or, .reg .d => .orD
  | .or, .reg .e => .orE
  | .or, .reg .h => .orH
  | .or, .reg .l => .orL
  | .or, .atHl => .orAtHl
  | .or, .reg .a => .orA
  | .cp, .reg .b => .cpB
  | .cp, .reg .c => .cpC
  | .cp, .reg .d => .cpD
  | .cp, .reg .e => .cpE
  | .cp, .reg .h => .cpH
  | .cp, .reg .l => .cpL
  | .cp, .atHl => .cpAtHl
  | .cp, .reg .a => .cpA

/-- The immediate forms of the accumulator operations (R194 to R202). -/
def Instr.aluD8 : AluOp → Byte → Instr
  | .add, n => .addAD8 n
  | .adc, n => .adcAD8 n
  | .sub, n => .subD8 n
  | .sbc, n => .sbcAD8 n
  | .and, n => .andD8 n
  | .xor, n => .xorD8 n
  | .or, n => .orD8 n
  | .cp, n => .cpD8 n

/-- `JP cc,a16` (R252). -/
def Instr.jpCond : Cond → Word → Instr
  | .nz, w => .jpNzA16 w
  | .z, w => .jpZA16 w
  | .nc, w => .jpNcA16 w
  | .cy, w => .jpCA16 w

/-- `JR cc,r8` (R255). -/
def Instr.jrCond : Cond → Byte → Instr
  | .nz, e => .jrNzR8 e
  | .z, e => .jrZR8 e
  | .nc, e => .jrNcR8 e
  | .cy, e => .jrCR8 e

/-- `CALL cc,a16` (R257). -/
def Instr.callCond : Cond → Word → Instr
  | .nz, w => .callNzA16 w
  | .z, w => .callZA16 w
  | .nc, w => .callNcA16 w
  | .cy, w => .callCA16 w

/-- `RET cc` (R259). -/
def Instr.retCond : Cond → Instr
  | .nz => .retNz
  | .z => .retZ
  | .nc => .retNc
  | .cy => .retC

/-- `RST t` (R261). -/
def Instr.rst : RstNum → Instr
  | .t0 => .rst0
  | .t1 => .rst1
  | .t2 => .rst2
  | .t3 => .rst3
  | .t4 => .rst4
  | .t5 => .rst5
  | .t6 => .rst6
  | .t7 => .rst7

/-- `PUSH rp` and `PUSH AF` (R280, R281). -/
def Instr.push : StackPair → Instr
  | .bc => .pushBc
  | .de => .pushDe
  | .hl => .pushHl
  | .af => .pushAf

/-- `POP rp` and `POP AF` (R282, R283). -/
def Instr.pop : StackPair → Instr
  | .bc => .popBc
  | .de => .popDe
  | .hl => .popHl
  | .af => .popAf

/-- The CB rotates, shifts and `SWAP` (R301 to R308). -/
def Instr.rot : RotOp → Operand8 → Instr
  | .rlc, .reg .b => .rlcB
  | .rlc, .reg .c => .rlcC
  | .rlc, .reg .d => .rlcD
  | .rlc, .reg .e => .rlcE
  | .rlc, .reg .h => .rlcH
  | .rlc, .reg .l => .rlcL
  | .rlc, .atHl => .rlcAtHl
  | .rlc, .reg .a => .rlcA
  | .rrc, .reg .b => .rrcB
  | .rrc, .reg .c => .rrcC
  | .rrc, .reg .d => .rrcD
  | .rrc, .reg .e => .rrcE
  | .rrc, .reg .h => .rrcH
  | .rrc, .reg .l => .rrcL
  | .rrc, .atHl => .rrcAtHl
  | .rrc, .reg .a => .rrcA
  | .rl, .reg .b => .rlB
  | .rl, .reg .c => .rlC
  | .rl, .reg .d => .rlD
  | .rl, .reg .e => .rlE
  | .rl, .reg .h => .rlH
  | .rl, .reg .l => .rlL
  | .rl, .atHl => .rlAtHl
  | .rl, .reg .a => .rlA
  | .rr, .reg .b => .rrB
  | .rr, .reg .c => .rrC
  | .rr, .reg .d => .rrD
  | .rr, .reg .e => .rrE
  | .rr, .reg .h => .rrH
  | .rr, .reg .l => .rrL
  | .rr, .atHl => .rrAtHl
  | .rr, .reg .a => .rrA
  | .sla, .reg .b => .slaB
  | .sla, .reg .c => .slaC
  | .sla, .reg .d => .slaD
  | .sla, .reg .e => .slaE
  | .sla, .reg .h => .slaH
  | .sla, .reg .l => .slaL
  | .sla, .atHl => .slaAtHl
  | .sla, .reg .a => .slaA
  | .sra, .reg .b => .sraB
  | .sra, .reg .c => .sraC
  | .sra, .reg .d => .sraD
  | .sra, .reg .e => .sraE
  | .sra, .reg .h => .sraH
  | .sra, .reg .l => .sraL
  | .sra, .atHl => .sraAtHl
  | .sra, .reg .a => .sraA
  | .swap, .reg .b => .swapB
  | .swap, .reg .c => .swapC
  | .swap, .reg .d => .swapD
  | .swap, .reg .e => .swapE
  | .swap, .reg .h => .swapH
  | .swap, .reg .l => .swapL
  | .swap, .atHl => .swapAtHl
  | .swap, .reg .a => .swapA
  | .srl, .reg .b => .srlB
  | .srl, .reg .c => .srlC
  | .srl, .reg .d => .srlD
  | .srl, .reg .e => .srlE
  | .srl, .reg .h => .srlH
  | .srl, .reg .l => .srlL
  | .srl, .atHl => .srlAtHl
  | .srl, .reg .a => .srlA

/-- `BIT b,r` (R309). -/
def Instr.bit : BitNum → Operand8 → Instr
  | .b0, .reg .b => .bit0B
  | .b0, .reg .c => .bit0C
  | .b0, .reg .d => .bit0D
  | .b0, .reg .e => .bit0E
  | .b0, .reg .h => .bit0H
  | .b0, .reg .l => .bit0L
  | .b0, .atHl => .bit0AtHl
  | .b0, .reg .a => .bit0A
  | .b1, .reg .b => .bit1B
  | .b1, .reg .c => .bit1C
  | .b1, .reg .d => .bit1D
  | .b1, .reg .e => .bit1E
  | .b1, .reg .h => .bit1H
  | .b1, .reg .l => .bit1L
  | .b1, .atHl => .bit1AtHl
  | .b1, .reg .a => .bit1A
  | .b2, .reg .b => .bit2B
  | .b2, .reg .c => .bit2C
  | .b2, .reg .d => .bit2D
  | .b2, .reg .e => .bit2E
  | .b2, .reg .h => .bit2H
  | .b2, .reg .l => .bit2L
  | .b2, .atHl => .bit2AtHl
  | .b2, .reg .a => .bit2A
  | .b3, .reg .b => .bit3B
  | .b3, .reg .c => .bit3C
  | .b3, .reg .d => .bit3D
  | .b3, .reg .e => .bit3E
  | .b3, .reg .h => .bit3H
  | .b3, .reg .l => .bit3L
  | .b3, .atHl => .bit3AtHl
  | .b3, .reg .a => .bit3A
  | .b4, .reg .b => .bit4B
  | .b4, .reg .c => .bit4C
  | .b4, .reg .d => .bit4D
  | .b4, .reg .e => .bit4E
  | .b4, .reg .h => .bit4H
  | .b4, .reg .l => .bit4L
  | .b4, .atHl => .bit4AtHl
  | .b4, .reg .a => .bit4A
  | .b5, .reg .b => .bit5B
  | .b5, .reg .c => .bit5C
  | .b5, .reg .d => .bit5D
  | .b5, .reg .e => .bit5E
  | .b5, .reg .h => .bit5H
  | .b5, .reg .l => .bit5L
  | .b5, .atHl => .bit5AtHl
  | .b5, .reg .a => .bit5A
  | .b6, .reg .b => .bit6B
  | .b6, .reg .c => .bit6C
  | .b6, .reg .d => .bit6D
  | .b6, .reg .e => .bit6E
  | .b6, .reg .h => .bit6H
  | .b6, .reg .l => .bit6L
  | .b6, .atHl => .bit6AtHl
  | .b6, .reg .a => .bit6A
  | .b7, .reg .b => .bit7B
  | .b7, .reg .c => .bit7C
  | .b7, .reg .d => .bit7D
  | .b7, .reg .e => .bit7E
  | .b7, .reg .h => .bit7H
  | .b7, .reg .l => .bit7L
  | .b7, .atHl => .bit7AtHl
  | .b7, .reg .a => .bit7A

/-- `RES b,r` (R310). -/
def Instr.res : BitNum → Operand8 → Instr
  | .b0, .reg .b => .res0B
  | .b0, .reg .c => .res0C
  | .b0, .reg .d => .res0D
  | .b0, .reg .e => .res0E
  | .b0, .reg .h => .res0H
  | .b0, .reg .l => .res0L
  | .b0, .atHl => .res0AtHl
  | .b0, .reg .a => .res0A
  | .b1, .reg .b => .res1B
  | .b1, .reg .c => .res1C
  | .b1, .reg .d => .res1D
  | .b1, .reg .e => .res1E
  | .b1, .reg .h => .res1H
  | .b1, .reg .l => .res1L
  | .b1, .atHl => .res1AtHl
  | .b1, .reg .a => .res1A
  | .b2, .reg .b => .res2B
  | .b2, .reg .c => .res2C
  | .b2, .reg .d => .res2D
  | .b2, .reg .e => .res2E
  | .b2, .reg .h => .res2H
  | .b2, .reg .l => .res2L
  | .b2, .atHl => .res2AtHl
  | .b2, .reg .a => .res2A
  | .b3, .reg .b => .res3B
  | .b3, .reg .c => .res3C
  | .b3, .reg .d => .res3D
  | .b3, .reg .e => .res3E
  | .b3, .reg .h => .res3H
  | .b3, .reg .l => .res3L
  | .b3, .atHl => .res3AtHl
  | .b3, .reg .a => .res3A
  | .b4, .reg .b => .res4B
  | .b4, .reg .c => .res4C
  | .b4, .reg .d => .res4D
  | .b4, .reg .e => .res4E
  | .b4, .reg .h => .res4H
  | .b4, .reg .l => .res4L
  | .b4, .atHl => .res4AtHl
  | .b4, .reg .a => .res4A
  | .b5, .reg .b => .res5B
  | .b5, .reg .c => .res5C
  | .b5, .reg .d => .res5D
  | .b5, .reg .e => .res5E
  | .b5, .reg .h => .res5H
  | .b5, .reg .l => .res5L
  | .b5, .atHl => .res5AtHl
  | .b5, .reg .a => .res5A
  | .b6, .reg .b => .res6B
  | .b6, .reg .c => .res6C
  | .b6, .reg .d => .res6D
  | .b6, .reg .e => .res6E
  | .b6, .reg .h => .res6H
  | .b6, .reg .l => .res6L
  | .b6, .atHl => .res6AtHl
  | .b6, .reg .a => .res6A
  | .b7, .reg .b => .res7B
  | .b7, .reg .c => .res7C
  | .b7, .reg .d => .res7D
  | .b7, .reg .e => .res7E
  | .b7, .reg .h => .res7H
  | .b7, .reg .l => .res7L
  | .b7, .atHl => .res7AtHl
  | .b7, .reg .a => .res7A

/-- `SET b,r` (R311). -/
def Instr.set : BitNum → Operand8 → Instr
  | .b0, .reg .b => .set0B
  | .b0, .reg .c => .set0C
  | .b0, .reg .d => .set0D
  | .b0, .reg .e => .set0E
  | .b0, .reg .h => .set0H
  | .b0, .reg .l => .set0L
  | .b0, .atHl => .set0AtHl
  | .b0, .reg .a => .set0A
  | .b1, .reg .b => .set1B
  | .b1, .reg .c => .set1C
  | .b1, .reg .d => .set1D
  | .b1, .reg .e => .set1E
  | .b1, .reg .h => .set1H
  | .b1, .reg .l => .set1L
  | .b1, .atHl => .set1AtHl
  | .b1, .reg .a => .set1A
  | .b2, .reg .b => .set2B
  | .b2, .reg .c => .set2C
  | .b2, .reg .d => .set2D
  | .b2, .reg .e => .set2E
  | .b2, .reg .h => .set2H
  | .b2, .reg .l => .set2L
  | .b2, .atHl => .set2AtHl
  | .b2, .reg .a => .set2A
  | .b3, .reg .b => .set3B
  | .b3, .reg .c => .set3C
  | .b3, .reg .d => .set3D
  | .b3, .reg .e => .set3E
  | .b3, .reg .h => .set3H
  | .b3, .reg .l => .set3L
  | .b3, .atHl => .set3AtHl
  | .b3, .reg .a => .set3A
  | .b4, .reg .b => .set4B
  | .b4, .reg .c => .set4C
  | .b4, .reg .d => .set4D
  | .b4, .reg .e => .set4E
  | .b4, .reg .h => .set4H
  | .b4, .reg .l => .set4L
  | .b4, .atHl => .set4AtHl
  | .b4, .reg .a => .set4A
  | .b5, .reg .b => .set5B
  | .b5, .reg .c => .set5C
  | .b5, .reg .d => .set5D
  | .b5, .reg .e => .set5E
  | .b5, .reg .h => .set5H
  | .b5, .reg .l => .set5L
  | .b5, .atHl => .set5AtHl
  | .b5, .reg .a => .set5A
  | .b6, .reg .b => .set6B
  | .b6, .reg .c => .set6C
  | .b6, .reg .d => .set6D
  | .b6, .reg .e => .set6E
  | .b6, .reg .h => .set6H
  | .b6, .reg .l => .set6L
  | .b6, .atHl => .set6AtHl
  | .b6, .reg .a => .set6A
  | .b7, .reg .b => .set7B
  | .b7, .reg .c => .set7C
  | .b7, .reg .d => .set7D
  | .b7, .reg .e => .set7E
  | .b7, .reg .h => .set7H
  | .b7, .reg .l => .set7L
  | .b7, .atHl => .set7AtHl
  | .b7, .reg .a => .set7A

/-- The rows of the undefined opcodes (R112). -/
def Instr.illegal : IllegalOp → Instr
  | .d3 => .illegalD3
  | .db => .illegalDB
  | .dd => .illegalDD
  | .e3 => .illegalE3
  | .e4 => .illegalE4
  | .eb => .illegalEB
  | .ec => .illegalEC
  | .ed => .illegalED
  | .f4 => .illegalF4
  | .fc => .illegalFC
  | .fd => .illegalFD

/-- The opcode byte of an undefined opcode (R112). -/
def IllegalOp.byte : IllegalOp → Byte
  | .d3 => 0xD3
  | .db => 0xDB
  | .dd => 0xDD
  | .e3 => 0xE3
  | .e4 => 0xE4
  | .eb => 0xEB
  | .ec => 0xEC
  | .ed => 0xED
  | .f4 => 0xF4
  | .fc => 0xFC
  | .fd => 0xFD

/-- The eleven undefined opcodes, as the document lists them (R112). -/
def undefinedOpcodes : List Byte := [0xD3, 0xDB, 0xDD, 0xE3, 0xE4, 0xEB, 0xEC, 0xED, 0xF4, 0xFC, 0xFD]

/-! Operand tables: the operand a bit field names. A field value above the table's last index does not occur. -/

/-- `r8[i]` (R104). -/
def operand8At : Nat → Operand8
  | 0 => .reg .b | 1 => .reg .c | 2 => .reg .d | 3 => .reg .e
  | 4 => .reg .h | 5 => .reg .l | 6 => .atHl | _ => .reg .a

/-- `rp[i]` (R105). -/
def reg16At : Nat → Reg16
  | 0 => .bc | 1 => .de | 2 => .hl | _ => .sp

/-- `rp2[i]` (R106). -/
def stackPairAt : Nat → StackPair
  | 0 => .bc | 1 => .de | 2 => .hl | _ => .af

/-- `cc[i]` (R107). -/
def condAt : Nat → Cond
  | 0 => .nz | 1 => .z | 2 => .nc | _ => .cy

/-- `alu[i]` (R108). -/
def aluOpAt : Nat → AluOp
  | 0 => .add | 1 => .adc | 2 => .sub | 3 => .sbc | 4 => .and | 5 => .xor | 6 => .or | _ => .cp

/-- `rot[i]` (R109). -/
def rotOpAt : Nat → RotOp
  | 0 => .rlc | 1 => .rrc | 2 => .rl | 3 => .rr | 4 => .sla | 5 => .sra | 6 => .swap | _ => .srl

/-- The bit number in the field `y` (R102, R111). -/
def bitNumAt : Nat → BitNum
  | 0 => .b0 | 1 => .b1 | 2 => .b2 | 3 => .b3 | 4 => .b4 | 5 => .b5 | 6 => .b6 | _ => .b7

/-- The restart number in the field `y` (R102, R110). -/
def rstNumAt : Nat → RstNum
  | 0 => .t0 | 1 => .t1 | 2 => .t2 | 3 => .t3 | 4 => .t4 | 5 => .t5 | 6 => .t6 | _ => .t7

/-! The opcode maps. `b1` and `b2` are the bytes after the opcode; a row without an immediate ignores them. -/

/-- The quarter `x = 0` of the base map (R110). -/
def decodeX0 (op b1 b2 : Byte) : Instr :=
  let y := fieldY op
  let p := reg16At (fieldP op)
  let imm16 := mkWord b2 b1
  match fieldZ op with
  | 0 =>
    match y with
    | 0 => .nop
    | 1 => .ldAtA16Sp imm16
    | 2 => .stop b1
    | 3 => .jrR8 b1
    | _ => .jrCond (condAt (y - 4)) b1
  | 1 => if fieldQ op = 0 then .ldPairD16 p imm16 else .addHlPair p
  | 2 =>
    match y with
    | 0 => .ldAtBcA
    | 1 => .ldAAtBc
    | 2 => .ldAtDeA
    | 3 => .ldAAtDe
    | 4 => .ldAtHlIncA
    | 5 => .ldAAtHlInc
    | 6 => .ldAtHlDecA
    | _ => .ldAAtHlDec
  | 3 => if fieldQ op = 0 then .incPair p else .decPair p
  | 4 =>
    match operand8At y with
    | .reg r => .incReg r
    | .atHl => .incAtHl
  | 5 =>
    match operand8At y with
    | .reg r => .decReg r
    | .atHl => .decAtHl
  | 6 =>
    match operand8At y with
    | .reg r => .ldRegD8 r b1
    | .atHl => .ldAtHlD8 b1
  | _ =>
    match y with
    | 0 => .rlca
    | 1 => .rrca
    | 2 => .rla
    | 3 => .rra
    | 4 => .daa
    | 5 => .cpl
    | 6 => .scf
    | _ => .ccf

/-- The quarter `x = 1` of the base map: `LD r8[y],r8[z]`, with `HALT` in the cell of `LD (HL),(HL)` (R110). -/
def decodeX1 (op : Byte) : Instr :=
  match operand8At (fieldY op), operand8At (fieldZ op) with
  | .reg dst, .reg src => .ldRegReg dst src
  | .reg dst, .atHl => .ldRegAtHl dst
  | .atHl, .reg src => .ldAtHlReg src
  | .atHl, .atHl => .halt

/-- The CB map, by the second byte (R111). -/
def decodeCB (op2 : Byte) : Instr :=
  let y := fieldY op2
  let r := operand8At (fieldZ op2)
  match fieldX op2 with
  | 0 => .rot (rotOpAt y) r
  | 1 => .bit (bitNumAt y) r
  | 2 => .res (bitNumAt y) r
  | _ => .set (bitNumAt y) r

/-- The quarter `x = 3` of the base map, with the prefix (R103) and ten of the undefined opcodes (R110, R112). -/
def decodeX3 (op b1 b2 : Byte) : Instr :=
  let y := fieldY op
  let imm16 := mkWord b2 b1
  match fieldZ op with
  | 0 =>
    match y with
    | 4 => .ldhAtA8A b1
    | 5 => .addSpR8 b1
    | 6 => .ldhAAtA8 b1
    | 7 => .ldHlSpR8 b1
    | _ => .retCond (condAt y)
  | 1 =>
    if fieldQ op = 0 then .pop (stackPairAt (fieldP op))
    else
      match fieldP op with
      | 0 => .ret
      | 1 => .reti
      | 2 => .jpHl
      | _ => .ldSpHl
  | 2 =>
    match y with
    | 4 => .ldAtCA
    | 5 => .ldAtA16A imm16
    | 6 => .ldAAtC
    | 7 => .ldAAtA16 imm16
    | _ => .jpCond (condAt y) imm16
  | 3 =>
    match y with
    | 0 => .jpA16 imm16
    | 1 => decodeCB b1
    | 2 => .illegal .d3
    | 3 => .illegal .db
    | 4 => .illegal .e3
    | 5 => .illegal .eb
    | 6 => .di
    | _ => .ei
  | 4 =>
    match y with
    | 4 => .illegal .e4
    | 5 => .illegal .ec
    | 6 => .illegal .f4
    | 7 => .illegal .fc
    | _ => .callCond (condAt y) imm16
  | 5 =>
    if fieldQ op = 0 then .push (stackPairAt (fieldP op))
    else
      match fieldP op with
      | 0 => .callA16 imm16
      | 1 => .illegal .dd
      | 2 => .illegal .ed
      | _ => .illegal .fd
  | 6 => .aluD8 (aluOpAt y) b1
  | _ => .rst (rstNumAt y)

/-- The instruction whose first byte is `op` and whose next bytes are `b1`, `b2` (R103, R110): total. -/
def instrOf (op b1 b2 : Byte) : Instr :=
  match fieldX op with
  | 0 => decodeX0 op b1 b2
  | 1 => decodeX1 op
  | 2 => .alu (aluOpAt (fieldY op)) (operand8At (fieldZ op))
  | _ => decodeX3 op b1 b2

/-- The three-byte opcodes (R114). -/
def threeByteOpcodes : List Byte :=
  [0x01, 0x11, 0x21, 0x31, 0x08, 0xC2, 0xCA, 0xD2, 0xDA, 0xC3, 0xC4, 0xCC, 0xD4, 0xDC, 0xCD, 0xEA, 0xFA]

/-- The two-byte opcodes: formats `F2` and `FCB` (R114). -/
def twoByteOpcodes : List Byte :=
  [0x06, 0x0E, 0x16, 0x1E, 0x26, 0x2E, 0x36, 0x3E, 0x10, 0x18, 0x20, 0x28, 0x30, 0x38]
    ++ [0xC6, 0xCE, 0xD6, 0xDE, 0xE6, 0xEE, 0xF6, 0xFE, 0xE0, 0xF0, 0xE8, 0xF8, 0xCB]

/-- How many bytes are fetched for the opcode `op` (R100, R114); of an undefined opcode only the opcode byte is
fetched (R119, R352). -/
def opLength (op : Byte) : Nat :=
  if threeByteOpcodes.contains op then 3 else if twoByteOpcodes.contains op then 2 else 1

/-- Why no instruction can be read from a list of bytes. -/
inductive DecodeError where
  /-- The list ends before the instruction does. No byte VALUE is refused: the decoder is total over them (R103). -/
  | outOfBytes
deriving DecidableEq, Repr

/-- The instruction that a list of bytes begins with, and the bytes after it (R103). -/
def decode (bytes : List Byte) : Except DecodeError (Instr × List Byte) :=
  match bytes with
  | [] => .error .outOfBytes
  | op :: rest =>
    match opLength op, rest with
    | 1, _ => .ok (instrOf op 0 0, rest)
    | 2, b1 :: rest1 => .ok (instrOf op b1 0, rest1)
    | 3, b1 :: b2 :: rest2 => .ok (instrOf op b1 b2, rest2)
    | _, _ => .error .outOfBytes

/-- The bytes of a 16-bit immediate, low byte first (R102). -/
def immBytes (w : Word) : List Byte := [loByte w, hiByte w]

/-- The bytes of an instruction in fetch order (R100, R118, spec/opcode_table.json). -/
def encode (i : Instr) : List Byte :=
  match i with
  | .nop => [0x00]
  | .ldBcD16 w => 0x01 :: immBytes w
  | .ldAtBcA => [0x02]
  | .incBc => [0x03]
  | .incB => [0x04]
  | .decB => [0x05]
  | .ldBD8 n => [0x06, n]
  | .rlca => [0x07]
  | .ldAtA16Sp w => 0x08 :: immBytes w
  | .addHlBc => [0x09]
  | .ldAAtBc => [0x0A]
  | .decBc => [0x0B]
  | .incC => [0x0C]
  | .decC => [0x0D]
  | .ldCD8 n => [0x0E, n]
  | .rrca => [0x0F]
  | .stop n => [0x10, n]
  | .ldDeD16 w => 0x11 :: immBytes w
  | .ldAtDeA => [0x12]
  | .incDe => [0x13]
  | .incD => [0x14]
  | .decD => [0x15]
  | .ldDD8 n => [0x16, n]
  | .rla => [0x17]
  | .jrR8 e => [0x18, e]
  | .addHlDe => [0x19]
  | .ldAAtDe => [0x1A]
  | .decDe => [0x1B]
  | .incE => [0x1C]
  | .decE => [0x1D]
  | .ldED8 n => [0x1E, n]
  | .rra => [0x1F]
  | .jrNzR8 e => [0x20, e]
  | .ldHlD16 w => 0x21 :: immBytes w
  | .ldAtHlIncA => [0x22]
  | .incHl => [0x23]
  | .incH => [0x24]
  | .decH => [0x25]
  | .ldHD8 n => [0x26, n]
  | .daa => [0x27]
  | .jrZR8 e => [0x28, e]
  | .addHlHl => [0x29]
  | .ldAAtHlInc => [0x2A]
  | .decHl => [0x2B]
  | .incL => [0x2C]
  | .decL => [0x2D]
  | .ldLD8 n => [0x2E, n]
  | .cpl => [0x2F]
  | .jrNcR8 e => [0x30, e]
  | .ldSpD16 w => 0x31 :: immBytes w
  | .ldAtHlDecA => [0x32]
  | .incSp => [0x33]
  | .incAtHl => [0x34]
  | .decAtHl => [0x35]
  | .ldAtHlD8 n => [0x36, n]
  | .scf => [0x37]
  | .jrCR8 e => [0x38, e]
  | .addHlSp => [0x39]
  | .ldAAtHlDec => [0x3A]
  | .decSp => [0x3B]
  | .incA => [0x3C]
  | .decA => [0x3D]
  | .ldAD8 n => [0x3E, n]
  | .ccf => [0x3F]
  | .ldBB => [0x40]
  | .ldBC => [0x41]
  | .ldBD => [0x42]
  | .ldBE => [0x43]
  | .ldBH => [0x44]
  | .ldBL => [0x45]
  | .ldBAtHl => [0x46]
  | .ldBA => [0x47]
  | .ldCB => [0x48]
  | .ldCC => [0x49]
  | .ldCD => [0x4A]
  | .ldCE => [0x4B]
  | .ldCH => [0x4C]
  | .ldCL => [0x4D]
  | .ldCAtHl => [0x4E]
  | .ldCA => [0x4F]
  | .ldDB => [0x50]
  | .ldDC => [0x51]
  | .ldDD => [0x52]
  | .ldDE => [0x53]
  | .ldDH => [0x54]
  | .ldDL => [0x55]
  | .ldDAtHl => [0x56]
  | .ldDA => [0x57]
  | .ldEB => [0x58]
  | .ldEC => [0x59]
  | .ldED => [0x5A]
  | .ldEE => [0x5B]
  | .ldEH => [0x5C]
  | .ldEL => [0x5D]
  | .ldEAtHl => [0x5E]
  | .ldEA => [0x5F]
  | .ldHB => [0x60]
  | .ldHC => [0x61]
  | .ldHD => [0x62]
  | .ldHE => [0x63]
  | .ldHH => [0x64]
  | .ldHL => [0x65]
  | .ldHAtHl => [0x66]
  | .ldHA => [0x67]
  | .ldLB => [0x68]
  | .ldLC => [0x69]
  | .ldLD => [0x6A]
  | .ldLE => [0x6B]
  | .ldLH => [0x6C]
  | .ldLL => [0x6D]
  | .ldLAtHl => [0x6E]
  | .ldLA => [0x6F]
  | .ldAtHlB => [0x70]
  | .ldAtHlC => [0x71]
  | .ldAtHlD => [0x72]
  | .ldAtHlE => [0x73]
  | .ldAtHlH => [0x74]
  | .ldAtHlL => [0x75]
  | .halt => [0x76]
  | .ldAtHlA => [0x77]
  | .ldAB => [0x78]
  | .ldAC => [0x79]
  | .ldAD => [0x7A]
  | .ldAE => [0x7B]
  | .ldAH => [0x7C]
  | .ldAL => [0x7D]
  | .ldAAtHl => [0x7E]
  | .ldAA => [0x7F]
  | .addAB => [0x80]
  | .addAC => [0x81]
  | .addAD => [0x82]
  | .addAE => [0x83]
  | .addAH => [0x84]
  | .addAL => [0x85]
  | .addAAtHl => [0x86]
  | .addAA => [0x87]
  | .adcAB => [0x88]
  | .adcAC => [0x89]
  | .adcAD => [0x8A]
  | .adcAE => [0x8B]
  | .adcAH => [0x8C]
  | .adcAL => [0x8D]
  | .adcAAtHl => [0x8E]
  | .adcAA => [0x8F]
  | .subB => [0x90]
  | .subC => [0x91]
  | .subD => [0x92]
  | .subE => [0x93]
  | .subH => [0x94]
  | .subL => [0x95]
  | .subAtHl => [0x96]
  | .subA => [0x97]
  | .sbcAB => [0x98]
  | .sbcAC => [0x99]
  | .sbcAD => [0x9A]
  | .sbcAE => [0x9B]
  | .sbcAH => [0x9C]
  | .sbcAL => [0x9D]
  | .sbcAAtHl => [0x9E]
  | .sbcAA => [0x9F]
  | .andB => [0xA0]
  | .andC => [0xA1]
  | .andD => [0xA2]
  | .andE => [0xA3]
  | .andH => [0xA4]
  | .andL => [0xA5]
  | .andAtHl => [0xA6]
  | .andA => [0xA7]
  | .xorB => [0xA8]
  | .xorC => [0xA9]
  | .xorD => [0xAA]
  | .xorE => [0xAB]
  | .xorH => [0xAC]
  | .xorL => [0xAD]
  | .xorAtHl => [0xAE]
  | .xorA => [0xAF]
  | .orB => [0xB0]
  | .orC => [0xB1]
  | .orD => [0xB2]
  | .orE => [0xB3]
  | .orH => [0xB4]
  | .orL => [0xB5]
  | .orAtHl => [0xB6]
  | .orA => [0xB7]
  | .cpB => [0xB8]
  | .cpC => [0xB9]
  | .cpD => [0xBA]
  | .cpE => [0xBB]
  | .cpH => [0xBC]
  | .cpL => [0xBD]
  | .cpAtHl => [0xBE]
  | .cpA => [0xBF]
  | .retNz => [0xC0]
  | .popBc => [0xC1]
  | .jpNzA16 w => 0xC2 :: immBytes w
  | .jpA16 w => 0xC3 :: immBytes w
  | .callNzA16 w => 0xC4 :: immBytes w
  | .pushBc => [0xC5]
  | .addAD8 n => [0xC6, n]
  | .rst0 => [0xC7]
  | .retZ => [0xC8]
  | .ret => [0xC9]
  | .jpZA16 w => 0xCA :: immBytes w
  | .callZA16 w => 0xCC :: immBytes w
  | .callA16 w => 0xCD :: immBytes w
  | .adcAD8 n => [0xCE, n]
  | .rst1 => [0xCF]
  | .retNc => [0xD0]
  | .popDe => [0xD1]
  | .jpNcA16 w => 0xD2 :: immBytes w
  | .illegalD3 => [0xD3]
  | .callNcA16 w => 0xD4 :: immBytes w
  | .pushDe => [0xD5]
  | .subD8 n => [0xD6, n]
  | .rst2 => [0xD7]
  | .retC => [0xD8]
  | .reti => [0xD9]
  | .jpCA16 w => 0xDA :: immBytes w
  | .illegalDB => [0xDB]
  | .callCA16 w => 0xDC :: immBytes w
  | .illegalDD => [0xDD]
  | .sbcAD8 n => [0xDE, n]
  | .rst3 => [0xDF]
  | .ldhAtA8A n => [0xE0, n]
  | .popHl => [0xE1]
  | .ldAtCA => [0xE2]
  | .illegalE3 => [0xE3]
  | .illegalE4 => [0xE4]
  | .pushHl => [0xE5]
  | .andD8 n => [0xE6, n]
  | .rst4 => [0xE7]
  | .addSpR8 e => [0xE8, e]
  | .jpHl => [0xE9]
  | .ldAtA16A w => 0xEA :: immBytes w
  | .illegalEB => [0xEB]
  | .illegalEC => [0xEC]
  | .illegalED => [0xED]
  | .xorD8 n => [0xEE, n]
  | .rst5 => [0xEF]
  | .ldhAAtA8 n => [0xF0, n]
  | .popAf => [0xF1]
  | .ldAAtC => [0xF2]
  | .di => [0xF3]
  | .illegalF4 => [0xF4]
  | .pushAf => [0xF5]
  | .orD8 n => [0xF6, n]
  | .rst6 => [0xF7]
  | .ldHlSpR8 e => [0xF8, e]
  | .ldSpHl => [0xF9]
  | .ldAAtA16 w => 0xFA :: immBytes w
  | .ei => [0xFB]
  | .illegalFC => [0xFC]
  | .illegalFD => [0xFD]
  | .cpD8 n => [0xFE, n]
  | .rst7 => [0xFF]
  | .rlcB => [0xCB, 0x00]
  | .rlcC => [0xCB, 0x01]
  | .rlcD => [0xCB, 0x02]
  | .rlcE => [0xCB, 0x03]
  | .rlcH => [0xCB, 0x04]
  | .rlcL => [0xCB, 0x05]
  | .rlcAtHl => [0xCB, 0x06]
  | .rlcA => [0xCB, 0x07]
  | .rrcB => [0xCB, 0x08]
  | .rrcC => [0xCB, 0x09]
  | .rrcD => [0xCB, 0x0A]
  | .rrcE => [0xCB, 0x0B]
  | .rrcH => [0xCB, 0x0C]
  | .rrcL => [0xCB, 0x0D]
  | .rrcAtHl => [0xCB, 0x0E]
  | .rrcA => [0xCB, 0x0F]
  | .rlB => [0xCB, 0x10]
  | .rlC => [0xCB, 0x11]
  | .rlD => [0xCB, 0x12]
  | .rlE => [0xCB, 0x13]
  | .rlH => [0xCB, 0x14]
  | .rlL => [0xCB, 0x15]
  | .rlAtHl => [0xCB, 0x16]
  | .rlA => [0xCB, 0x17]
  | .rrB => [0xCB, 0x18]
  | .rrC => [0xCB, 0x19]
  | .rrD => [0xCB, 0x1A]
  | .rrE => [0xCB, 0x1B]
  | .rrH => [0xCB, 0x1C]
  | .rrL => [0xCB, 0x1D]
  | .rrAtHl => [0xCB, 0x1E]
  | .rrA => [0xCB, 0x1F]
  | .slaB => [0xCB, 0x20]
  | .slaC => [0xCB, 0x21]
  | .slaD => [0xCB, 0x22]
  | .slaE => [0xCB, 0x23]
  | .slaH => [0xCB, 0x24]
  | .slaL => [0xCB, 0x25]
  | .slaAtHl => [0xCB, 0x26]
  | .slaA => [0xCB, 0x27]
  | .sraB => [0xCB, 0x28]
  | .sraC => [0xCB, 0x29]
  | .sraD => [0xCB, 0x2A]
  | .sraE => [0xCB, 0x2B]
  | .sraH => [0xCB, 0x2C]
  | .sraL => [0xCB, 0x2D]
  | .sraAtHl => [0xCB, 0x2E]
  | .sraA => [0xCB, 0x2F]
  | .swapB => [0xCB, 0x30]
  | .swapC => [0xCB, 0x31]
  | .swapD => [0xCB, 0x32]
  | .swapE => [0xCB, 0x33]
  | .swapH => [0xCB, 0x34]
  | .swapL => [0xCB, 0x35]
  | .swapAtHl => [0xCB, 0x36]
  | .swapA => [0xCB, 0x37]
  | .srlB => [0xCB, 0x38]
  | .srlC => [0xCB, 0x39]
  | .srlD => [0xCB, 0x3A]
  | .srlE => [0xCB, 0x3B]
  | .srlH => [0xCB, 0x3C]
  | .srlL => [0xCB, 0x3D]
  | .srlAtHl => [0xCB, 0x3E]
  | .srlA => [0xCB, 0x3F]
  | .bit0B => [0xCB, 0x40]
  | .bit0C => [0xCB, 0x41]
  | .bit0D => [0xCB, 0x42]
  | .bit0E => [0xCB, 0x43]
  | .bit0H => [0xCB, 0x44]
  | .bit0L => [0xCB, 0x45]
  | .bit0AtHl => [0xCB, 0x46]
  | .bit0A => [0xCB, 0x47]
  | .bit1B => [0xCB, 0x48]
  | .bit1C => [0xCB, 0x49]
  | .bit1D => [0xCB, 0x4A]
  | .bit1E => [0xCB, 0x4B]
  | .bit1H => [0xCB, 0x4C]
  | .bit1L => [0xCB, 0x4D]
  | .bit1AtHl => [0xCB, 0x4E]
  | .bit1A => [0xCB, 0x4F]
  | .bit2B => [0xCB, 0x50]
  | .bit2C => [0xCB, 0x51]
  | .bit2D => [0xCB, 0x52]
  | .bit2E => [0xCB, 0x53]
  | .bit2H => [0xCB, 0x54]
  | .bit2L => [0xCB, 0x55]
  | .bit2AtHl => [0xCB, 0x56]
  | .bit2A => [0xCB, 0x57]
  | .bit3B => [0xCB, 0x58]
  | .bit3C => [0xCB, 0x59]
  | .bit3D => [0xCB, 0x5A]
  | .bit3E => [0xCB, 0x5B]
  | .bit3H => [0xCB, 0x5C]
  | .bit3L => [0xCB, 0x5D]
  | .bit3AtHl => [0xCB, 0x5E]
  | .bit3A => [0xCB, 0x5F]
  | .bit4B => [0xCB, 0x60]
  | .bit4C => [0xCB, 0x61]
  | .bit4D => [0xCB, 0x62]
  | .bit4E => [0xCB, 0x63]
  | .bit4H => [0xCB, 0x64]
  | .bit4L => [0xCB, 0x65]
  | .bit4AtHl => [0xCB, 0x66]
  | .bit4A => [0xCB, 0x67]
  | .bit5B => [0xCB, 0x68]
  | .bit5C => [0xCB, 0x69]
  | .bit5D => [0xCB, 0x6A]
  | .bit5E => [0xCB, 0x6B]
  | .bit5H => [0xCB, 0x6C]
  | .bit5L => [0xCB, 0x6D]
  | .bit5AtHl => [0xCB, 0x6E]
  | .bit5A => [0xCB, 0x6F]
  | .bit6B => [0xCB, 0x70]
  | .bit6C => [0xCB, 0x71]
  | .bit6D => [0xCB, 0x72]
  | .bit6E => [0xCB, 0x73]
  | .bit6H => [0xCB, 0x74]
  | .bit6L => [0xCB, 0x75]
  | .bit6AtHl => [0xCB, 0x76]
  | .bit6A => [0xCB, 0x77]
  | .bit7B => [0xCB, 0x78]
  | .bit7C => [0xCB, 0x79]
  | .bit7D => [0xCB, 0x7A]
  | .bit7E => [0xCB, 0x7B]
  | .bit7H => [0xCB, 0x7C]
  | .bit7L => [0xCB, 0x7D]
  | .bit7AtHl => [0xCB, 0x7E]
  | .bit7A => [0xCB, 0x7F]
  | .res0B => [0xCB, 0x80]
  | .res0C => [0xCB, 0x81]
  | .res0D => [0xCB, 0x82]
  | .res0E => [0xCB, 0x83]
  | .res0H => [0xCB, 0x84]
  | .res0L => [0xCB, 0x85]
  | .res0AtHl => [0xCB, 0x86]
  | .res0A => [0xCB, 0x87]
  | .res1B => [0xCB, 0x88]
  | .res1C => [0xCB, 0x89]
  | .res1D => [0xCB, 0x8A]
  | .res1E => [0xCB, 0x8B]
  | .res1H => [0xCB, 0x8C]
  | .res1L => [0xCB, 0x8D]
  | .res1AtHl => [0xCB, 0x8E]
  | .res1A => [0xCB, 0x8F]
  | .res2B => [0xCB, 0x90]
  | .res2C => [0xCB, 0x91]
  | .res2D => [0xCB, 0x92]
  | .res2E => [0xCB, 0x93]
  | .res2H => [0xCB, 0x94]
  | .res2L => [0xCB, 0x95]
  | .res2AtHl => [0xCB, 0x96]
  | .res2A => [0xCB, 0x97]
  | .res3B => [0xCB, 0x98]
  | .res3C => [0xCB, 0x99]
  | .res3D => [0xCB, 0x9A]
  | .res3E => [0xCB, 0x9B]
  | .res3H => [0xCB, 0x9C]
  | .res3L => [0xCB, 0x9D]
  | .res3AtHl => [0xCB, 0x9E]
  | .res3A => [0xCB, 0x9F]
  | .res4B => [0xCB, 0xA0]
  | .res4C => [0xCB, 0xA1]
  | .res4D => [0xCB, 0xA2]
  | .res4E => [0xCB, 0xA3]
  | .res4H => [0xCB, 0xA4]
  | .res4L => [0xCB, 0xA5]
  | .res4AtHl => [0xCB, 0xA6]
  | .res4A => [0xCB, 0xA7]
  | .res5B => [0xCB, 0xA8]
  | .res5C => [0xCB, 0xA9]
  | .res5D => [0xCB, 0xAA]
  | .res5E => [0xCB, 0xAB]
  | .res5H => [0xCB, 0xAC]
  | .res5L => [0xCB, 0xAD]
  | .res5AtHl => [0xCB, 0xAE]
  | .res5A => [0xCB, 0xAF]
  | .res6B => [0xCB, 0xB0]
  | .res6C => [0xCB, 0xB1]
  | .res6D => [0xCB, 0xB2]
  | .res6E => [0xCB, 0xB3]
  | .res6H => [0xCB, 0xB4]
  | .res6L => [0xCB, 0xB5]
  | .res6AtHl => [0xCB, 0xB6]
  | .res6A => [0xCB, 0xB7]
  | .res7B => [0xCB, 0xB8]
  | .res7C => [0xCB, 0xB9]
  | .res7D => [0xCB, 0xBA]
  | .res7E => [0xCB, 0xBB]
  | .res7H => [0xCB, 0xBC]
  | .res7L => [0xCB, 0xBD]
  | .res7AtHl => [0xCB, 0xBE]
  | .res7A => [0xCB, 0xBF]
  | .set0B => [0xCB, 0xC0]
  | .set0C => [0xCB, 0xC1]
  | .set0D => [0xCB, 0xC2]
  | .set0E => [0xCB, 0xC3]
  | .set0H => [0xCB, 0xC4]
  | .set0L => [0xCB, 0xC5]
  | .set0AtHl => [0xCB, 0xC6]
  | .set0A => [0xCB, 0xC7]
  | .set1B => [0xCB, 0xC8]
  | .set1C => [0xCB, 0xC9]
  | .set1D => [0xCB, 0xCA]
  | .set1E => [0xCB, 0xCB]
  | .set1H => [0xCB, 0xCC]
  | .set1L => [0xCB, 0xCD]
  | .set1AtHl => [0xCB, 0xCE]
  | .set1A => [0xCB, 0xCF]
  | .set2B => [0xCB, 0xD0]
  | .set2C => [0xCB, 0xD1]
  | .set2D => [0xCB, 0xD2]
  | .set2E => [0xCB, 0xD3]
  | .set2H => [0xCB, 0xD4]
  | .set2L => [0xCB, 0xD5]
  | .set2AtHl => [0xCB, 0xD6]
  | .set2A => [0xCB, 0xD7]
  | .set3B => [0xCB, 0xD8]
  | .set3C => [0xCB, 0xD9]
  | .set3D => [0xCB, 0xDA]
  | .set3E => [0xCB, 0xDB]
  | .set3H => [0xCB, 0xDC]
  | .set3L => [0xCB, 0xDD]
  | .set3AtHl => [0xCB, 0xDE]
  | .set3A => [0xCB, 0xDF]
  | .set4B => [0xCB, 0xE0]
  | .set4C => [0xCB, 0xE1]
  | .set4D => [0xCB, 0xE2]
  | .set4E => [0xCB, 0xE3]
  | .set4H => [0xCB, 0xE4]
  | .set4L => [0xCB, 0xE5]
  | .set4AtHl => [0xCB, 0xE6]
  | .set4A => [0xCB, 0xE7]
  | .set5B => [0xCB, 0xE8]
  | .set5C => [0xCB, 0xE9]
  | .set5D => [0xCB, 0xEA]
  | .set5E => [0xCB, 0xEB]
  | .set5H => [0xCB, 0xEC]
  | .set5L => [0xCB, 0xED]
  | .set5AtHl => [0xCB, 0xEE]
  | .set5A => [0xCB, 0xEF]
  | .set6B => [0xCB, 0xF0]
  | .set6C => [0xCB, 0xF1]
  | .set6D => [0xCB, 0xF2]
  | .set6E => [0xCB, 0xF3]
  | .set6H => [0xCB, 0xF4]
  | .set6L => [0xCB, 0xF5]
  | .set6AtHl => [0xCB, 0xF6]
  | .set6A => [0xCB, 0xF7]
  | .set7B => [0xCB, 0xF8]
  | .set7C => [0xCB, 0xF9]
  | .set7D => [0xCB, 0xFA]
  | .set7E => [0xCB, 0xFB]
  | .set7H => [0xCB, 0xFC]
  | .set7L => [0xCB, 0xFD]
  | .set7AtHl => [0xCB, 0xFE]
  | .set7A => [0xCB, 0xFF]

/-- The first three bytes of an instruction given as a number, laid out as the hardware fetches them. The bytes of
the number follow with rising bits (bits 7..0 the first byte), except that spec/opcode_table.json writes a CB row
with the prefix in bits 15..8 (R119): a 16-bit word whose upper byte is `$CB` has the prefix first (log 25). -/
def tableBytes (nbits w : Nat) : List Byte :=
  let b0 := BitVec.ofNat 8 w
  let b1 := if 8 < nbits then BitVec.ofNat 8 (w >>> 8) else 0
  let b2 := if 16 < nbits then BitVec.ofNat 8 (w >>> 16) else 0
  if nbits = 16 && b1 == 0xCB then [b1, b0, b2] else [b0, b1, b2]

/-- The instruction the decoder reads from an instruction whose bits are `w`, numbered as spec/opcode_table.json
numbers them; the bits from `nbits` on are 0. -/
def decodeTableWord (nbits w : Nat) : Option Instr :=
  match decode (tableBytes nbits w) with
  | .ok (i, _) => some i
  | .error _ => none

end Sys2Proof
end

