-- ==== Sys2Proof/Machine/CycleTable.lean ====
section
/-! DEFINITION. The parameter `CYCLES(op, op2, taken)`, which the spec leaves OPEN and takes as an argument of the model
(R8, D8, U4), as plain data, and the value the spec recommends for it (R392). -/

namespace Sys2Proof.Machine

/-- `CYCLES(op, op2, taken)` as a table (R8): `notTaken` and `taken` by the opcode byte, `prefixed` by the byte after
`$CB`. The step consults nothing else of it: the second byte matters only after `$CB`, and no `$CB` operation is a
branch (R340 step 4). A list shorter than 256 gives 0 beyond its end. -/
structure CycleTable where
  notTaken : List Nat
  taken : List Nat
  prefixed : List Nat
deriving DecidableEq, Repr

/-- `CYCLES(op, op2, taken)` (R8). -/
def CycleTable.cycles (p : CycleTable) (op op2 : Byte) (isTaken : Bool) : Nat :=
  if op = 0xCB then p.prefixed.getD op2.toNat 0
  else if isTaken then p.taken.getD op.toNat 0
  else p.notTaken.getD op.toNat 0

/-- The recommended counts of the base opcodes, row by row of the grid of rule R118, a conditional branch not taken
(R392). The prefix `$CB` and the undefined opcodes have 0 here. -/
def recommendedNotTaken : List Nat :=
  [1, 3, 2, 2, 1, 1, 2, 1, 5, 2, 2, 2, 1, 1, 2, 1]
    ++ [1, 3, 2, 2, 1, 1, 2, 1, 3, 2, 2, 2, 1, 1, 2, 1]
    ++ [2, 3, 2, 2, 1, 1, 2, 1, 2, 2, 2, 2, 1, 1, 2, 1]
    ++ [2, 3, 2, 2, 3, 3, 3, 1, 2, 2, 2, 2, 1, 1, 2, 1]
    ++ [1, 1, 1, 1, 1, 1, 2, 1, 1, 1, 1, 1, 1, 1, 2, 1]
    ++ [1, 1, 1, 1, 1, 1, 2, 1, 1, 1, 1, 1, 1, 1, 2, 1]
    ++ [1, 1, 1, 1, 1, 1, 2, 1, 1, 1, 1, 1, 1, 1, 2, 1]
    ++ [2, 2, 2, 2, 2, 2, 1, 2, 1, 1, 1, 1, 1, 1, 2, 1]
    ++ [1, 1, 1, 1, 1, 1, 2, 1, 1, 1, 1, 1, 1, 1, 2, 1]
    ++ [1, 1, 1, 1, 1, 1, 2, 1, 1, 1, 1, 1, 1, 1, 2, 1]
    ++ [1, 1, 1, 1, 1, 1, 2, 1, 1, 1, 1, 1, 1, 1, 2, 1]
    ++ [1, 1, 1, 1, 1, 1, 2, 1, 1, 1, 1, 1, 1, 1, 2, 1]
    ++ [2, 3, 3, 4, 3, 4, 2, 4, 2, 4, 3, 0, 3, 6, 2, 4]
    ++ [2, 3, 3, 0, 3, 4, 2, 4, 2, 4, 3, 0, 3, 0, 2, 4]
    ++ [3, 3, 2, 0, 0, 4, 2, 4, 4, 1, 4, 0, 0, 0, 2, 4]
    ++ [3, 3, 2, 1, 0, 4, 2, 4, 3, 2, 4, 1, 0, 0, 2, 4]

/-- The recommended counts of the base opcodes, a conditional branch taken: `JR cc` and `JP cc` one more, `CALL cc` and
`RET cc` three more (R392). -/
def recommendedTaken : List Nat :=
  [1, 3, 2, 2, 1, 1, 2, 1, 5, 2, 2, 2, 1, 1, 2, 1]
    ++ [1, 3, 2, 2, 1, 1, 2, 1, 3, 2, 2, 2, 1, 1, 2, 1]
    ++ [3, 3, 2, 2, 1, 1, 2, 1, 3, 2, 2, 2, 1, 1, 2, 1]
    ++ [3, 3, 2, 2, 3, 3, 3, 1, 3, 2, 2, 2, 1, 1, 2, 1]
    ++ [1, 1, 1, 1, 1, 1, 2, 1, 1, 1, 1, 1, 1, 1, 2, 1]
    ++ [1, 1, 1, 1, 1, 1, 2, 1, 1, 1, 1, 1, 1, 1, 2, 1]
    ++ [1, 1, 1, 1, 1, 1, 2, 1, 1, 1, 1, 1, 1, 1, 2, 1]
    ++ [2, 2, 2, 2, 2, 2, 1, 2, 1, 1, 1, 1, 1, 1, 2, 1]
    ++ [1, 1, 1, 1, 1, 1, 2, 1, 1, 1, 1, 1, 1, 1, 2, 1]
    ++ [1, 1, 1, 1, 1, 1, 2, 1, 1, 1, 1, 1, 1, 1, 2, 1]
    ++ [1, 1, 1, 1, 1, 1, 2, 1, 1, 1, 1, 1, 1, 1, 2, 1]
    ++ [1, 1, 1, 1, 1, 1, 2, 1, 1, 1, 1, 1, 1, 1, 2, 1]
    ++ [5, 3, 4, 4, 6, 4, 2, 4, 5, 4, 4, 0, 6, 6, 2, 4]
    ++ [5, 3, 4, 0, 6, 4, 2, 4, 5, 4, 4, 0, 6, 0, 2, 4]
    ++ [3, 3, 2, 0, 0, 4, 2, 4, 4, 1, 4, 0, 0, 0, 2, 4]
    ++ [3, 3, 2, 1, 0, 4, 2, 4, 3, 2, 4, 1, 0, 0, 2, 4]

/-- Sixteen CB operations: 2 on a register, `atHl` on the byte at `HL` (R392). -/
def prefixedRow (atHl : Nat) : List Nat := [2, 2, 2, 2, 2, 2, atHl, 2, 2, 2, 2, 2, 2, 2, atHl, 2]

/-- Sixty-four CB operations (R392). -/
def prefixedBlock (atHl : Nat) : List Nat :=
  prefixedRow atHl ++ prefixedRow atHl ++ prefixedRow atHl ++ prefixedRow atHl

/-- The recommended counts of the CB operations, the prefix included: rotates and shifts, `BIT`, `RES`, `SET` (R392). -/
def recommendedPrefixed : List Nat := prefixedBlock 4 ++ prefixedBlock 3 ++ prefixedBlock 4 ++ prefixedBlock 4

/-- The value of `CYCLES` the spec recommends, from general knowledge (R392, D8, G9). PRESUMED, log 4: it stands in
`State.reset` and in no rule. -/
def recommendedCycles : CycleTable :=
  { notTaken := recommendedNotTaken, taken := recommendedTaken, prefixed := recommendedPrefixed }

end Sys2Proof.Machine
end

