-- ==== Sys2Proof/Machine/Memory.lean ====
section
/-! DEFINITION. An array of byte cells as plain data: a list of (index, byte) pairs in one canonical form, and the
places where the bytes of the address space live (the "backing" column of rule R60). -/

namespace Sys2Proof.Machine

/-- An array of 8-bit cells: the cells whose byte differs from what an unlisted cell reads as, indexes rising. -/
abbrev Memory := List Host.Cell

/-- The place where a byte lives: a cell of one of the arrays of rules R35 to R38, a byte of the cartridge image
(R35), or the register `ie` (R40). -/
inductive Place where
  | rom (off : Nat)
  | vram (k : Nat)
  | cartRam (k : Nat)
  | wram (k : Nat)
  | oam (k : Nat)
  | io (k : Nat)
  | hram (k : Nat)
  | ie
deriving DecidableEq, Repr

/-- What an unlisted cell reads as, the ONE definition: `$FF` in the cartridge image (R65), the reset contents
`$00` everywhere else (R36, R37, R38, R380; D14 for cartridge RAM and the I/O file, log 15). -/
def unlisted : Place → Byte
  | .rom _ => Config.romUnlisted
  | .vram _ | .cartRam _ | .wram _ | .oam _ | .io _ | .hram _ | .ie => Config.ramUnlisted

/-- The byte at index `k`, `dflt` where the list has none. -/
def Memory.read (dflt : Byte) (m : Memory) (k : Nat) : Byte :=
  match m with
  | [] => dflt
  | (j, v) :: rest => if k = j then v else Memory.read dflt rest k

/-- The array with no entry at index `k`. -/
def Memory.without (m : Memory) (k : Nat) : Memory :=
  match m with
  | [] => []
  | (j, u) :: rest => if j = k then Memory.without rest k else (j, u) :: Memory.without rest k

/-- The array with the entry `(k, v)` before the first entry of a greater index. -/
def Memory.insertCell (m : Memory) (k : Nat) (v : Byte) : Memory :=
  match m with
  | [] => [(k, v)]
  | (j, u) :: rest => if k < j then (k, v) :: (j, u) :: rest else (j, u) :: Memory.insertCell rest k v

/-- The array with `v` at index `k`; writing what an unlisted cell reads as removes the entry. -/
def Memory.write (dflt : Byte) (m : Memory) (k : Nat) (v : Byte) : Memory :=
  if v = dflt then m.without k else (m.without k).insertCell k v

/-- Canonical from index `lo` on: indexes at least `lo` and rising, all below `size`, no entry equal to `dflt`. -/
def Memory.wfFrom (dflt : Byte) (size : Nat) (lo : Nat) (m : Memory) : Bool :=
  match m with
  | [] => true
  | (j, v) :: rest =>
    decide (lo ≤ j) && decide (j < size) && (v != dflt) && Memory.wfFrom dflt size (j + 1) rest

/-- The canonical form of an array of `size` cells. -/
def Memory.wf (dflt : Byte) (size : Nat) (m : Memory) : Bool := Memory.wfFrom dflt size 0 m

/-- The array that holds the bytes of `bytes` from index `k` on. -/
def Memory.ofBytes (dflt : Byte) (k : Nat) (bytes : List Byte) : Memory :=
  match bytes with
  | [] => []
  | v :: rest =>
    if v = dflt then Memory.ofBytes dflt (k + 1) rest else (k, v) :: Memory.ofBytes dflt (k + 1) rest

end Sys2Proof.Machine
end

