-- ==== Sys2Proof/Machine/State.lean ====
section
/-! DEFINITION. The state of the machine, as plain data: every piece of state of spec/10_state.md (rules R20 to R42),
and the arguments the machine was built from (the parameters `ROM`, `ROM_LEN`, `ROM_BANKS`, `CYCLES` of rule R8), which
no step changes and which stand in the state so that a program can be placed in it and a step can consult them. -/

namespace Sys2Proof.Machine

/-- The run-time faults of the hardware: there is exactly one (R350, R87). -/
inductive Fault where
  /-- An undefined opcode `op` was fetched at `pc` (R350, R352). It is recorded in `State.faultLatch` by
  `raiseIllegal`, as the spec describes, and the step that raises it answers a NEXT state; no step and no
  meaning ends in `Outcome.fault` (D7, log 6). Safe: a latched machine never moves again. -/
  | illegalInstruction (pc : Word) (op : Byte)
deriving DecidableEq, Repr

/-- What the model declines to do. -/
inductive Refusal where
  /-- Raised by an arm of `exec` whose instruction has no meaning yet. Safe. No arm raises it. -/
  | notModelled (mnemonic : String)
  /-- Raised by `loadROM` for an image whose type byte is not supported or is absent ("InvalidMBC", R5, R86, D23):
  no machine is constructed. Safe: nothing can be claimed of a machine that does not exist. -/
  | invalidMBC
  /-- Raised by `loadROM` when `ROM_BANKS` is no power of two or is below 2 (R8, D11). Safe. -/
  | invalidRomBanks
  /-- Raised by `envApply` for an environment write outside `$FF00-$FF7F` (R7, D19). Safe: the model then says
  nothing of that history. -/
  | outsideIoWindow
deriving DecidableEq, Repr

/-- The state. -/
@[ext]
structure State where
  /-- Register `A` (R20). -/
  a : Byte
  /-- Register `F`: Z bit 7, N bit 6, H bit 5, C bit 4, bits 3..0 zero (R22, R23). -/
  f : Byte
  /-- Register `B` (R20). -/
  b : Byte
  /-- Register `C` (R20). -/
  c : Byte
  /-- Register `D` (R20). -/
  d : Byte
  /-- Register `E` (R20). -/
  e : Byte
  /-- Register `H` (R20). -/
  h : Byte
  /-- Register `L` (R20). -/
  l : Byte
  /-- The stack pointer (R24). -/
  sp : Word
  /-- The program counter (R25). -/
  pc : Word
  /-- `IME`, interrupt master enable (R27). -/
  ime : Bool
  /-- `ime_pending`, the `EI` delay latch (R28). -/
  imePending : Bool
  /-- `ei_just`: the instruction just executed was the `EI` that set `ime_pending` (R29). -/
  eiJust : Bool
  /-- The HALT latch (R30). -/
  halted : Bool
  /-- The machine-cycle accumulator, modulo `2^64` (R31). -/
  cycles : BitVec 64
  /-- The illegal-instruction fault latch (R33). -/
  faultLatch : Option Fault
  /-- Video RAM, 8192 cells, `$8000-$9FFF` (R36). -/
  vram : Memory
  /-- External cartridge RAM, 32768 cells in four banks (R37). -/
  cartRam : Memory
  /-- Work RAM, 8192 cells, `$C000-$DFFF` (R36). -/
  wram : Memory
  /-- Object attribute memory, 160 cells, `$FE00-$FE9F` (R36). -/
  oam : Memory
  /-- The I/O register file, 128 cells, `$FF00-$FF7F`; `io[$0F]` is `IF`, `io[$46]` is `DMA` (R38, R39, R41). -/
  io : Memory
  /-- High RAM, 127 cells, `$FF80-$FFFE` (R36). -/
  hram : Memory
  /-- `IE`, the interrupt enable register at `$FFFF` (R40). -/
  ie : Byte
  /-- MBC1 `ram_enable` (R42). -/
  ramEnable : Bool
  /-- MBC1 `rom_bank_low5`, never 0 (R42). -/
  romBankLow5 : BitVec 5
  /-- MBC1 `rom_bank_high2` (R42). -/
  romBankHigh2 : BitVec 2
  /-- MBC1 `banking_mode`: false = simple ROM, true = advanced (R42). -/
  bankingMode : Bool
  /-- The cartridge image `ROM`, a parameter (R8, R35); no step writes it. -/
  rom : Memory
  /-- `ROM_LEN`, a parameter (R8, R65). -/
  romLen : Nat
  /-- `ROM_BANKS`, a parameter (R8, R75). -/
  romBanks : Nat
  /-- `CYCLES`, a parameter (R8, D8); no step writes it. -/
  cycleTable : CycleTable
deriving DecidableEq, Repr

/-- The machine right after reset (R380): the documented values, and no cartridge: the image is empty, so every ROM
byte reads `$FF` (R65), `ROM_BANKS` is the least value it may have, and `CYCLES` is the table the spec recommends.
DESIGN CHOICE for `rom`, `romLen`, `romBanks` (log 1); PRESUMED for `cycleTable` (log 4); `eiJust`, `cycles`, `faultLatch`, the I/O cells other than `IF` and the cartridge RAM are the
spec's own decisions D1, D9, D7, D14 (logs 7, 24, 6, 15). -/
def State.reset : State where
  a := 0x00
  f := 0x00
  b := 0x00
  c := 0x00
  d := 0x00
  e := 0x00
  h := 0x00
  l := 0x00
  sp := 0xFFFE
  pc := 0x0100
  ime := false
  imePending := false
  eiJust := false
  halted := false
  cycles := 0
  faultLatch := none
  vram := []
  cartRam := []
  wram := []
  oam := []
  io := []
  hram := []
  ie := 0x00
  ramEnable := false
  romBankLow5 := 1
  romBankHigh2 := 0
  bankingMode := false
  rom := []
  romLen := 0
  romBanks := 2
  cycleTable := recommendedCycles

/-- What an instruction or a step answers. -/
abbrev Result := Host.Outcome State Fault Refusal

end Sys2Proof.Machine
end

