-- ==== Sys2Proof/Machine/Mmu.lean ====
section
/-! DEFINITION. The MMU (spec/20_memory.md): the twelve regions of the address space, the effective MBC1 banks, the
read dispatch `MemRead(addr, 1)`, the write dispatch `MemWrite(addr, 1, v)`, the MBC1 latches and the OAM DMA copy.
No access faults (R61) and no read changes anything (R79). -/

namespace Sys2Proof.Machine

/-- The twelve regions of rule R60. -/
inductive Region where
  | rom0 | romX | vram | cartRam | wram0 | wram1 | echo | oam | prohibited | io | hram | ie
deriving DecidableEq, Repr

/-- The region an address belongs to: exactly one (R60). -/
def regionOf (addr : Word) : Region :=
  let n := addr.toNat
  if n ≤ 0x3FFF then .rom0
  else if n ≤ 0x7FFF then .romX
  else if n ≤ 0x9FFF then .vram
  else if n ≤ 0xBFFF then .cartRam
  else if n ≤ 0xCFFF then .wram0
  else if n ≤ 0xDFFF then .wram1
  else if n ≤ 0xFDFF then .echo
  else if n ≤ 0xFE9F then .oam
  else if n ≤ 0xFEFF then .prohibited
  else if n ≤ 0xFF7F then .io
  else if n ≤ 0xFFFE then .hram
  else .ie

/-- The ROM bank number before it is masked to the ROM size: `(rom_bank_high2 << 5) | rom_bank_low5` (R75). -/
def State.unmaskedRomBank (s : State) : Nat := (s.romBankHigh2.toNat <<< 5) ||| s.romBankLow5.toNat

/-- `RomBank()`, the effective ROM bank (R75). -/
def State.romBank (s : State) : Nat := s.unmaskedRomBank &&& (s.romBanks - 1)

/-- `RamBank()`, the effective RAM bank (R76). -/
def State.ramBank (s : State) : Nat := if s.bankingMode then s.romBankHigh2.toNat else 0

/-- `RamIndex(addr)` for an address of the window `$A000-$BFFF` (R76, D12). -/
def State.ramIndex (s : State) (addr : Word) : Nat := s.ramBank * 0x2000 + (addr.toNat - 0xA000)

/-- Where the byte at an address lives, the backing of its region (R60, R64 to R68): `none` where nothing backs it,
the prohibited region and the cartridge RAM window while `ram_enable` is 0. -/
def State.locate (s : State) (addr : Word) : Option Place :=
  let n := addr.toNat
  match regionOf addr with
  | .rom0 => some (.rom n)
  | .romX => some (.rom (s.romBank * 0x4000 + (n - 0x4000)))
  | .vram => some (.vram (n - 0x8000))
  | .cartRam => if s.ramEnable then some (.cartRam (s.ramIndex addr)) else none
  | .wram0 => some (.wram (n - 0xC000))
  | .wram1 => some (.wram (n - 0xC000))
  | .echo => some (.wram (n - 0x2000 - 0xC000))
  | .oam => some (.oam (n - 0xFE00))
  | .prohibited => none
  | .io => some (.io (n - 0xFF00))
  | .hram => some (.hram (n - 0xFF80))
  | .ie => some .ie

/-- `RomByte(off)`: `ROM[off]` when `off < ROM_LEN`, else `$FF` (R65). -/
def State.romByte (s : State) (off : Nat) : Byte :=
  if off < s.romLen then Memory.read (unlisted (.rom off)) s.rom off else 0xFF

/-- The byte held at a place. -/
def State.readPlace (s : State) (p : Place) : Byte :=
  match p with
  | .rom off => s.romByte off
  | .vram k => Memory.read (unlisted p) s.vram k
  | .cartRam k => Memory.read (unlisted p) s.cartRam k
  | .wram k => Memory.read (unlisted p) s.wram k
  | .oam k => Memory.read (unlisted p) s.oam k
  | .io k => Memory.read (unlisted p) s.io k
  | .hram k => Memory.read (unlisted p) s.hram k
  | .ie => s.ie

/-- The state with a byte stored at a place. ROM stores nothing (R72). -/
def State.writePlace (s : State) (p : Place) (v : Byte) : State :=
  match p with
  | .rom _ => s
  | .vram k => { s with vram := Memory.write (unlisted p) s.vram k v }
  | .cartRam k => { s with cartRam := Memory.write (unlisted p) s.cartRam k v }
  | .wram k => { s with wram := Memory.write (unlisted p) s.wram k v }
  | .oam k => { s with oam := Memory.write (unlisted p) s.oam k v }
  | .io k => { s with io := Memory.write (unlisted p) s.io k v }
  | .hram k => { s with hram := Memory.write (unlisted p) s.hram k v }
  | .ie => { s with ie := v }

/-- `MemRead(addr, 1)`, the document's `Read(addr)` (R64): the byte where the address is backed, else `$FF`. -/
def State.readByte (s : State) (addr : Word) : Byte :=
  match s.locate addr with
  | some p => s.readPlace p
  | none => 0xFF

/-- The MBC1 state machine: the effect of a write of `v` into `$0000-$7FFF` (R72). -/
def State.mbc1Write (s : State) (addr : Word) (v : Byte) : State :=
  let n := addr.toNat
  if n ≤ 0x1FFF then { s with ramEnable := (v &&& 0x0F) == 0x0A }
  else if n ≤ 0x3FFF then
    let bank := BitVec.setWidth 5 v
    { s with romBankLow5 := if bank = 0 then 1 else bank }
  else if n ≤ 0x5FFF then { s with romBankHigh2 := BitVec.setWidth 2 v }
  else { s with bankingMode := v.getLsbD 0 }

/-- The first `count` bytes of `OamDma(v)`, copied in ascending order: `oam[i] <- Read((v << 8) + i)` (R78, D16). -/
def State.oamCopy (s : State) (v : Byte) (count : Nat) : State :=
  match count with
  | 0 => s
  | i + 1 =>
    let t := s.oamCopy v i
    t.writePlace (.oam i) (t.readByte (mkWord v 0 + BitVec.ofNat 16 i))

/-- `OamDma(v)`: 160 bytes (R78). -/
def State.oamDma (s : State) (v : Byte) : State := s.oamCopy v 0xA0

/-- The address of the OAM DMA register (R41). -/
def dmaAddr : Word := 0xFF46

/-- `MemWrite(addr, 1, v)`, the document's `Write(addr, byte)` (R70): ROM space drives the MBC1 latches, `$FF46`
copies and then stores, any other address stores where its byte lives, and a write that nothing backs is dropped. -/
def State.writeByte (s : State) (addr : Word) (v : Byte) : State :=
  match regionOf addr with
  | .rom0 | .romX => s.mbc1Write addr v
  | .vram | .cartRam | .wram0 | .wram1 | .echo | .oam | .prohibited | .io | .hram | .ie =>
    let ready := if addr = dmaAddr then s.oamDma v else s
    match ready.locate addr with
    | some p => ready.writePlace p v
    | none => ready

end Sys2Proof.Machine
end

