-- ==== Sys2Proof/Machine/Ops.lean ====
section
/-! DEFINITION. The named operations over registers, the stack and the interrupt controller that the instructions
share, and the three transfers outside an instruction's own flow: taking an interrupt (R344), raising
IllegalInstruction (R352) and returning from an interrupt (R260, R348). -/

namespace Sys2Proof.Machine

/-! Registers and pairs (R20, R21). -/

/-- The 8-bit register named. -/
def State.reg (s : State) (r : Reg8) : Byte :=
  match r with
  | .b => s.b
  | .c => s.c
  | .d => s.d
  | .e => s.e
  | .h => s.h
  | .l => s.l
  | .a => s.a

/-- The state with the 8-bit register named holding `v`. -/
def State.setReg (s : State) (r : Reg8) (v : Byte) : State :=
  match r with
  | .b => { s with b := v }
  | .c => { s with c := v }
  | .d => { s with d := v }
  | .e => { s with e := v }
  | .h => { s with h := v }
  | .l => { s with l := v }
  | .a => { s with a := v }

/-- The one place that writes `F`: `F <- v & $F0` (R23). -/
def State.setF (s : State) (v : Byte) : State := { s with f := v &&& 0xF0 }

/-- `BC = B:C` (R21). -/
def State.bc (s : State) : Word := mkWord s.b s.c

/-- `DE = D:E` (R21). -/
def State.de (s : State) : Word := mkWord s.d s.e

/-- `HL = H:L` (R21). -/
def State.hl (s : State) : Word := mkWord s.h s.l

/-- `AF = A:F` (R21). -/
def State.af (s : State) : Word := mkWord s.a s.f

/-- Writing `HL` writes both halves (R11, R21). -/
def State.setHl (s : State) (v : Word) : State := { s with h := hiByte v, l := loByte v }

/-- The pair `rp` named (R105). -/
def State.pair (s : State) (p : Reg16) : Word :=
  match p with
  | .bc => s.bc
  | .de => s.de
  | .hl => s.hl
  | .sp => s.sp

/-- The state with the pair `rp` named holding `v` (R21, R105). -/
def State.setPair (s : State) (p : Reg16) (v : Word) : State :=
  match p with
  | .bc => { s with b := hiByte v, c := loByte v }
  | .de => { s with d := hiByte v, e := loByte v }
  | .hl => s.setHl v
  | .sp => { s with sp := v }

/-- The pair `rp2` named (R106). -/
def State.stackPair (s : State) (p : StackPair) : Word :=
  match p with
  | .bc => s.bc
  | .de => s.de
  | .hl => s.hl
  | .af => s.af

/-- The state with the pair `rp2` named holding `v`; a write to `AF` passes through the mask of `F` (R21, R23). -/
def State.setStackPair (s : State) (p : StackPair) (v : Word) : State :=
  match p with
  | .bc => { s with b := hiByte v, c := loByte v }
  | .de => { s with d := hiByte v, e := loByte v }
  | .hl => s.setHl v
  | .af => State.setF { s with a := hiByte v } (loByte v)

/-! 16-bit accesses (R12, R69): two byte accesses, wrapping at `$FFFF`. -/

/-- `MemRead(addr, 2)`: low byte at `addr`, high byte at `addr + 1` (R12). -/
def State.readWord (s : State) (addr : Word) : Word := mkWord (s.readByte (addr + 1)) (s.readByte addr)

/-- `MemWrite(addr, 2, v)`: the low byte first (R12, D15). -/
def State.writeWord (s : State) (addr : Word) (v : Word) : State :=
  (s.writeByte addr (loByte v)).writeByte (addr + 1) (hiByte v)

/-- `Push16(v)`: high byte at `SP - 1`, then low byte at `SP - 2`, then `SP <- SP - 2` (R12). -/
def State.push16 (s : State) (v : Word) : State :=
  let t := (s.writeByte (s.sp - 1) (hiByte v)).writeByte (s.sp - 2) (loByte v)
  { t with sp := s.sp - 2 }

/-- The value `Pop16()` gives: low byte from `SP`, high byte from `SP + 1` (R12). -/
def State.popValue (s : State) : Word := s.readWord s.sp

/-- The state after `Pop16()`: `SP <- SP + 2` (R12). -/
def State.popped (s : State) : State := { s with sp := s.sp + 2 }

/-! The interrupt controller (R39, R40, R342 to R347). -/

/-- The five interrupt sources (R342). -/
inductive Source where
  | vblank | lcdStat | timer | serial | joypad
deriving DecidableEq, Repr

/-- The index of a source, its bit in `IF` and `IE` (R342). -/
def Source.index : Source → Nat
  | .vblank => 0
  | .lcdStat => 1
  | .timer => 2
  | .serial => 3
  | .joypad => 4

/-- The bit of a source. -/
def Source.mask (src : Source) : Byte := 1 <<< src.index

/-- The vector of a source, `$0040 + 8*i` (R342). -/
def Source.vector (src : Source) : Word := 0x0040 + 8 * BitVec.ofNat 16 src.index

/-- `IF`, the cell `io[$0F]` (R39). -/
def State.ifReg (s : State) : Byte := s.readPlace (.io 0x0F)

/-- The state with `IF` holding `v` (R39). -/
def State.setIfReg (s : State) (v : Byte) : State := s.writePlace (.io 0x0F) v

/-- `Raise(source)`: "sets the corresponding bit in `IF`" (R346). -/
def State.raise (s : State) (src : Source) : State := s.setIfReg (s.ifReg ||| src.mask)

/-- Clearing the bit of a source in `IF` (R344, R346). -/
def State.clearRequest (s : State) (src : Source) : State := s.setIfReg (s.ifReg &&& ~~~src.mask)

/-- `IF & IE & $1F`, the enabled pending sources (R340 step 2, R342). -/
def State.pendingBits (s : State) : Byte := s.ifReg &&& s.ie &&& 0x1F

/-- The source of the lowest set bit: priority VBlank, LCD STAT, Timer, Serial, Joypad (R342, R347). -/
def lowestSource (bits : Byte) : Option Source :=
  if bits.getLsbD 0 then some .vblank
  else if bits.getLsbD 1 then some .lcdStat
  else if bits.getLsbD 2 then some .timer
  else if bits.getLsbD 3 then some .serial
  else if bits.getLsbD 4 then some .joypad
  else none

/-- `Pending()`: "the lowest-index set bit in `IF & IE & $1F` (or none)" (R342). -/
def State.pendingSource (s : State) : Option Source := lowestSource s.pendingBits

/-! Exceptions. -/

/-- Taking an interrupt, `Dispatch(i)` (R344): `IME` and the `EI` latch cleared (D4), `PC` pushed through the MMU, the
source's bit cleared in whatever `IF` then holds (D17, R345), `PC` at the vector. The five cycles are added by the
step (R340). -/
def State.takeInterrupt (s : State) (src : Source) : State :=
  let off := { s with ime := false, imePending := false, eiJust := false }
  let pushed := off.push16 off.pc
  { pushed.clearRequest src with pc := src.vector }

/-- `raise IllegalInstruction(pc0, op)` (R352), from a state whose `PC` has passed the one opcode byte: `PC` goes back
to the opcode, the latch is set, nothing else changes (D7). -/
def State.raiseIllegal (s : State) (op : Byte) : State :=
  let pc0 := s.pc - 1
  { s with pc := pc0, faultLatch := some (.illegalInstruction pc0 op) }

/-- `RET`: `pc <- Pop16()` (R258). -/
def State.returnFromCall (s : State) : State := { s.popped with pc := s.popValue }

/-- The return from an interrupt, `RETI`: `pc <- Pop16()`, then `IME <- 1` at once (R260, R348). -/
def State.returnFromInterrupt (s : State) : State := { s.returnFromCall with ime := true }

end Sys2Proof.Machine
end

