-- ==== Sys2Proof/Machine/Flags.lean ====
section
/-! DEFINITION. The flags, and every computation that yields flags (R22, and the flag lines of rules R172, R182, R183,
R190 to R202, R230 to R237, R301 to R309). The comparisons are made in natural numbers, before any wrap (R10). -/

namespace Sys2Proof.Machine

/-- `F.Z`, bit 7 (R22). -/
def State.flagZ (s : State) : Bool := s.f.getLsbD 7

/-- `F.N`, bit 6 (R22). -/
def State.flagN (s : State) : Bool := s.f.getLsbD 6

/-- `F.H`, bit 5 (R22). -/
def State.flagH (s : State) : Bool := s.f.getLsbD 5

/-- `F.C`, bit 4 (R22). -/
def State.flagC (s : State) : Bool := s.f.getLsbD 4

/-- The flag byte with the given flags; its low nibble is 0 (R22). -/
def packFlags (z n h c : Bool) : Byte :=
  (if z then 0x80 else 0x00) ||| (if n then 0x40 else 0x00) ||| (if h then 0x20 else 0x00) ||| (if c then 0x10 else 0x00)

/-- The state with all four flags written. -/
def State.setFlags (s : State) (z n h c : Bool) : State := s.setF (packFlags z n h c)

/-- The truth of a condition on the flags (R107, R250). -/
def State.condHolds (s : State) (cc : Cond) : Bool :=
  match cc with
  | .nz => !s.flagZ
  | .z => s.flagZ
  | .nc => !s.flagC
  | .cy => s.flagC

/-- `v & $0F` as a number (R10). -/
def lowNibble (v : Byte) : Nat := (v &&& 0x0F).toNat

/-- The result of an 8-bit operation, with the four flags it gives. -/
structure AluOut where
  value : Byte
  z : Bool
  n : Bool
  h : Bool
  c : Bool
deriving DecidableEq, Repr

/-- `ADD` (`c` false) and `ADC` (R195, R196). -/
def add8 (a v : Byte) (c : Bool) : AluOut :=
  let res := a.toNat + v.toNat + c.toNat
  let value := BitVec.ofNat 8 res
  { value := value
    z := value == 0
    n := false
    h := decide (lowNibble a + lowNibble v + c.toNat > 0x0F)
    c := decide (res > 0xFF) }

/-- `SUB` (`c` false) and `SBC` (R197, R198): the borrows compare with an unbounded right side. -/
def sub8 (a v : Byte) (c : Bool) : AluOut :=
  let value := a - v - BitVec.ofNat 8 c.toNat
  { value := value
    z := value == 0
    n := true
    h := decide (lowNibble a < lowNibble v + c.toNat)
    c := decide (a.toNat < v.toNat + c.toNat) }

/-- `AND` (R199). -/
def and8 (a v : Byte) : AluOut :=
  { value := a &&& v, z := (a &&& v) == 0, n := false, h := true, c := false }

/-- `XOR` (R200). -/
def xor8 (a v : Byte) : AluOut :=
  { value := a ^^^ v, z := (a ^^^ v) == 0, n := false, h := false, c := false }

/-- `OR` (R201). -/
def or8 (a v : Byte) : AluOut :=
  { value := a ||| v, z := (a ||| v) == 0, n := false, h := false, c := false }

/-- `CP`: the flags of `SUB`; the accumulator keeps its value (R202). -/
def cp8 (a v : Byte) : AluOut := { sub8 a v false with value := a }

/-- The accumulator operation named, on `A`, the operand and the carry flag (R194). -/
def aluOut (op : AluOp) (a v : Byte) (c : Bool) : AluOut :=
  match op with
  | .add => add8 a v false
  | .adc => add8 a v c
  | .sub => sub8 a v false
  | .sbc => sub8 a v c
  | .and => and8 a v
  | .xor => xor8 a v
  | .or => or8 a v
  | .cp => cp8 a v

/-- `INC`: `c` is the carry flag, which it keeps (R190). -/
def inc8 (v : Byte) (c : Bool) : AluOut :=
  { value := v + 1, z := v + 1 == 0, n := false, h := decide (lowNibble v + 1 > 0x0F), c := c }

/-- `DEC`: `c` is the carry flag, which it keeps (R192). -/
def dec8 (v : Byte) (c : Bool) : AluOut :=
  { value := v - 1, z := v - 1 == 0, n := true, h := decide (lowNibble v < 1), c := c }

/-- A bit as bit 0 of a byte. -/
def asBit0 (b : Bool) : Byte := if b then 0x01 else 0x00

/-- A bit as bit 7 of a byte. -/
def asBit7 (b : Bool) : Byte := if b then 0x80 else 0x00

/-- The value a rotate, shift or `SWAP` gives; `c` is the carry flag before it (R301 to R308, G6). -/
def rotValue (op : RotOp) (v : Byte) (c : Bool) : Byte :=
  match op with
  | .rlc => (v <<< 1) ||| asBit0 (v.getLsbD 7)
  | .rrc => (v >>> 1) ||| asBit7 (v.getLsbD 0)
  | .rl => (v <<< 1) ||| asBit0 c
  | .rr => (v >>> 1) ||| asBit7 c
  | .sla => v <<< 1
  | .sra => (v >>> 1) ||| (v &&& 0x80)
  | .swap => (v <<< 4) ||| (v >>> 4)
  | .srl => v >>> 1

/-- The carry flag a rotate, shift or `SWAP` gives: the bit shifted out, 0 for `SWAP` (R301 to R308). -/
def rotCarry (op : RotOp) (v : Byte) : Bool :=
  match op with
  | .rlc => v.getLsbD 7
  | .rrc => v.getLsbD 0
  | .rl => v.getLsbD 7
  | .rr => v.getLsbD 0
  | .sla => v.getLsbD 7
  | .sra => v.getLsbD 0
  | .swap => false
  | .srl => v.getLsbD 0

/-- A CB rotate, shift or `SWAP`: `Z` from the result, `N` and `H` 0 (R301 to R308). -/
def rotOut (op : RotOp) (v : Byte) (c : Bool) : AluOut :=
  { value := rotValue op v c, z := rotValue op v c == 0, n := false, h := false, c := rotCarry op v }

/-- A rotate of the accumulator: `Z` is 0 whatever the result (R230 to R233). -/
def rotAOut (op : RotOp) (v : Byte) (c : Bool) : AluOut :=
  { value := rotValue op v c, z := false, n := false, h := false, c := rotCarry op v }

/-- `DAA` on `A` and the flags `N`, `H`, `C`; both tests of the add branch look at `A` before it (R234). -/
def daaOut (a : Byte) (n h c : Bool) : AluOut :=
  let high := if n then c else c || decide (a.toNat > 0x99)
  let low := if n then h else h || decide (lowNibble a > 0x09)
  let corr : Byte := (if high then 0x60 else 0x00) + (if low then 0x06 else 0x00)
  let value := if n then a - corr else a + corr
  { value := value
    z := value == 0
    n := n
    h := false
    c := if n then c else high }

/-- The number of a bit (R309). -/
def bitIndex : BitNum → Nat
  | .b0 => 0
  | .b1 => 1
  | .b2 => 2
  | .b3 => 3
  | .b4 => 4
  | .b5 => 5
  | .b6 => 6
  | .b7 => 7

/-- `1 << b` (R310, R311). -/
def bitMask (b : BitNum) : Byte := 1 <<< bitIndex b

/-- The result of a 16-bit addition, with the two carries it gives. -/
structure WordOut where
  value : Word
  h : Bool
  c : Bool
deriving DecidableEq, Repr

/-- `ADD HL,rp`: carries from bit 11 and bit 15 (R182). -/
def addWords (a v : Word) : WordOut :=
  { value := a + v
    h := decide ((a &&& 0x0FFF).toNat + (v &&& 0x0FFF).toNat > 0x0FFF)
    c := decide (a.toNat + v.toNat > 0xFFFF) }

/-- `SP + sext_16(e)`: the carries are those of the unsigned low bytes (R172, R183, D24). -/
def addSpOffset (sp : Word) (e : Byte) : WordOut :=
  { value := sp + sext16 e
    h := decide ((sp &&& 0x000F).toNat + lowNibble e > 0x0F)
    c := decide ((sp &&& 0x00FF).toNat + e.toNat > 0xFF) }

end Sys2Proof.Machine
end

