-- ==== Sys2Proof/Machine/Operands.lean ====
section
/-! DEFINITION. The operand forms: register, `(HL)`, the high page, a restart target, a relative target. -/

namespace Sys2Proof.Machine

/-- `ReadOperand(z)`: the register, or the byte at `HL` (R104, R194, R300). -/
def State.readOperand (s : State) (o : Operand8) : Byte :=
  match o with
  | .reg r => s.reg r
  | .atHl => s.readByte s.hl

/-- `WriteOperand(z, v)`: the register, or the byte at `HL` with the side effect of its region (R104, R300). -/
def State.writeOperand (s : State) (o : Operand8) (v : Byte) : State :=
  match o with
  | .reg r => s.setReg r v
  | .atHl => s.writeByte s.hl v

/-- `$FF00 + a8`, `$FF00 + C` (R102, R155 to R158). -/
def highPage (off : Byte) : Word := 0xFF00 + BitVec.setWidth 16 off

/-- The number of a restart (R261). -/
def rstIndex : RstNum → Nat
  | .t0 => 0
  | .t1 => 1
  | .t2 => 2
  | .t3 => 3
  | .t4 => 4
  | .t5 => 5
  | .t6 => 6
  | .t7 => 7

/-- The target `t * 8` of `RST t` (R261). -/
def rstTarget (t : RstNum) : Word := BitVec.ofNat 16 (rstIndex t * 8)

/-- The target of a relative jump: `PC + sext_16(e)` with `PC` past the instruction (R254, R255). -/
def State.relative (s : State) (e : Byte) : Word := s.pc + sext16 e

/-- The state with the result of an operation in `A` and its flags in `F` (R194). -/
def State.putA (s : State) (r : AluOut) : State := State.setFlags { s with a := r.value } r.z r.n r.h r.c

/-- The state with the result of an operation in an operand, then its flags in `F` (R190, R191, R300). -/
def State.putOperand (s : State) (o : Operand8) (r : AluOut) : State :=
  (s.writeOperand o r.value).setFlags r.z r.n r.h r.c

end Sys2Proof.Machine
end

