-- ==== Sys2Proof/Machine/Alu8.lean ====
section
/-! DEFINITION. 8-bit arithmetic and logic (spec/44_alu_8bit.md). `PC` has passed the whole instruction when a meaning
starts (R25, R103); the machine cycles are added by the step (R340). -/

namespace Sys2Proof.Machine

/-- `INC` of a register or of the byte at `HL` (R190, R191). -/
def incOperand (o : Operand8) (s : State) : Result := .next (s.putOperand o (inc8 (s.readOperand o) s.flagC))

/-- `DEC` of a register or of the byte at `HL` (R192, R193). -/
def decOperand (o : Operand8) (s : State) : Result := .next (s.putOperand o (dec8 (s.readOperand o) s.flagC))

/-- An accumulator operation on `A` and the value `v` (R194). -/
def aluValue (op : AluOp) (v : Byte) (s : State) : Result := .next (s.putA (aluOut op s.a v s.flagC))

/-- An accumulator operation with a register or `(HL)` operand (R194). -/
def aluOperand (op : AluOp) (o : Operand8) (s : State) : Result := aluValue op (s.readOperand o) s

/-- `INC B`, $04 (R190). -/
def execIncB (s : State) : Result := incOperand (.reg .b) s

/-- `DEC B`, $05 (R192). -/
def execDecB (s : State) : Result := decOperand (.reg .b) s

/-- `INC C`, $0C (R190). -/
def execIncC (s : State) : Result := incOperand (.reg .c) s

/-- `DEC C`, $0D (R192). -/
def execDecC (s : State) : Result := decOperand (.reg .c) s

/-- `INC D`, $14 (R190). -/
def execIncD (s : State) : Result := incOperand (.reg .d) s

/-- `DEC D`, $15 (R192). -/
def execDecD (s : State) : Result := decOperand (.reg .d) s

/-- `INC E`, $1C (R190). -/
def execIncE (s : State) : Result := incOperand (.reg .e) s

/-- `DEC E`, $1D (R192). -/
def execDecE (s : State) : Result := decOperand (.reg .e) s

/-- `INC H`, $24 (R190). -/
def execIncH (s : State) : Result := incOperand (.reg .h) s

/-- `DEC H`, $25 (R192). -/
def execDecH (s : State) : Result := decOperand (.reg .h) s

/-- `INC L`, $2C (R190). -/
def execIncL (s : State) : Result := incOperand (.reg .l) s

/-- `DEC L`, $2D (R192). -/
def execDecL (s : State) : Result := decOperand (.reg .l) s

/-- `INC (HL)`, $34 (R191). -/
def execIncAtHl (s : State) : Result := incOperand .atHl s

/-- `DEC (HL)`, $35 (R193). -/
def execDecAtHl (s : State) : Result := decOperand .atHl s

/-- `INC A`, $3C (R190). -/
def execIncA (s : State) : Result := incOperand (.reg .a) s

/-- `DEC A`, $3D (R192). -/
def execDecA (s : State) : Result := decOperand (.reg .a) s

/-- `ADD A,B`, $80 (R195). -/
def execAddAB (s : State) : Result := aluOperand .add (.reg .b) s

/-- `ADD A,C`, $81 (R195). -/
def execAddAC (s : State) : Result := aluOperand .add (.reg .c) s

/-- `ADD A,D`, $82 (R195). -/
def execAddAD (s : State) : Result := aluOperand .add (.reg .d) s

/-- `ADD A,E`, $83 (R195). -/
def execAddAE (s : State) : Result := aluOperand .add (.reg .e) s

/-- `ADD A,H`, $84 (R195). -/
def execAddAH (s : State) : Result := aluOperand .add (.reg .h) s

/-- `ADD A,L`, $85 (R195). -/
def execAddAL (s : State) : Result := aluOperand .add (.reg .l) s

/-- `ADD A,(HL)`, $86 (R195). -/
def execAddAAtHl (s : State) : Result := aluOperand .add .atHl s

/-- `ADD A,A`, $87 (R195). -/
def execAddAA (s : State) : Result := aluOperand .add (.reg .a) s

/-- `ADC A,B`, $88 (R196). -/
def execAdcAB (s : State) : Result := aluOperand .adc (.reg .b) s

/-- `ADC A,C`, $89 (R196). -/
def execAdcAC (s : State) : Result := aluOperand .adc (.reg .c) s

/-- `ADC A,D`, $8A (R196). -/
def execAdcAD (s : State) : Result := aluOperand .adc (.reg .d) s

/-- `ADC A,E`, $8B (R196). -/
def execAdcAE (s : State) : Result := aluOperand .adc (.reg .e) s

/-- `ADC A,H`, $8C (R196). -/
def execAdcAH (s : State) : Result := aluOperand .adc (.reg .h) s

/-- `ADC A,L`, $8D (R196). -/
def execAdcAL (s : State) : Result := aluOperand .adc (.reg .l) s

/-- `ADC A,(HL)`, $8E (R196). -/
def execAdcAAtHl (s : State) : Result := aluOperand .adc .atHl s

/-- `ADC A,A`, $8F (R196). -/
def execAdcAA (s : State) : Result := aluOperand .adc (.reg .a) s

/-- `SUB B`, $90 (R197). -/
def execSubB (s : State) : Result := aluOperand .sub (.reg .b) s

/-- `SUB C`, $91 (R197). -/
def execSubC (s : State) : Result := aluOperand .sub (.reg .c) s

/-- `SUB D`, $92 (R197). -/
def execSubD (s : State) : Result := aluOperand .sub (.reg .d) s

/-- `SUB E`, $93 (R197). -/
def execSubE (s : State) : Result := aluOperand .sub (.reg .e) s

/-- `SUB H`, $94 (R197). -/
def execSubH (s : State) : Result := aluOperand .sub (.reg .h) s

/-- `SUB L`, $95 (R197). -/
def execSubL (s : State) : Result := aluOperand .sub (.reg .l) s

/-- `SUB (HL)`, $96 (R197). -/
def execSubAtHl (s : State) : Result := aluOperand .sub .atHl s

/-- `SUB A`, $97 (R197). -/
def execSubA (s : State) : Result := aluOperand .sub (.reg .a) s

/-- `SBC A,B`, $98 (R198). -/
def execSbcAB (s : State) : Result := aluOperand .sbc (.reg .b) s

/-- `SBC A,C`, $99 (R198). -/
def execSbcAC (s : State) : Result := aluOperand .sbc (.reg .c) s

/-- `SBC A,D`, $9A (R198). -/
def execSbcAD (s : State) : Result := aluOperand .sbc (.reg .d) s

/-- `SBC A,E`, $9B (R198). -/
def execSbcAE (s : State) : Result := aluOperand .sbc (.reg .e) s

/-- `SBC A,H`, $9C (R198). -/
def execSbcAH (s : State) : Result := aluOperand .sbc (.reg .h) s

/-- `SBC A,L`, $9D (R198). -/
def execSbcAL (s : State) : Result := aluOperand .sbc (.reg .l) s

/-- `SBC A,(HL)`, $9E (R198). -/
def execSbcAAtHl (s : State) : Result := aluOperand .sbc .atHl s

/-- `SBC A,A`, $9F (R198). -/
def execSbcAA (s : State) : Result := aluOperand .sbc (.reg .a) s

/-- `AND B`, $A0 (R199). -/
def execAndB (s : State) : Result := aluOperand .and (.reg .b) s

/-- `AND C`, $A1 (R199). -/
def execAndC (s : State) : Result := aluOperand .and (.reg .c) s

/-- `AND D`, $A2 (R199). -/
def execAndD (s : State) : Result := aluOperand .and (.reg .d) s

/-- `AND E`, $A3 (R199). -/
def execAndE (s : State) : Result := aluOperand .and (.reg .e) s

/-- `AND H`, $A4 (R199). -/
def execAndH (s : State) : Result := aluOperand .and (.reg .h) s

/-- `AND L`, $A5 (R199). -/
def execAndL (s : State) : Result := aluOperand .and (.reg .l) s

/-- `AND (HL)`, $A6 (R199). -/
def execAndAtHl (s : State) : Result := aluOperand .and .atHl s

/-- `AND A`, $A7 (R199). -/
def execAndA (s : State) : Result := aluOperand .and (.reg .a) s

/-- `XOR B`, $A8 (R200). -/
def execXorB (s : State) : Result := aluOperand .xor (.reg .b) s

/-- `XOR C`, $A9 (R200). -/
def execXorC (s : State) : Result := aluOperand .xor (.reg .c) s

/-- `XOR D`, $AA (R200). -/
def execXorD (s : State) : Result := aluOperand .xor (.reg .d) s

/-- `XOR E`, $AB (R200). -/
def execXorE (s : State) : Result := aluOperand .xor (.reg .e) s

/-- `XOR H`, $AC (R200). -/
def execXorH (s : State) : Result := aluOperand .xor (.reg .h) s

/-- `XOR L`, $AD (R200). -/
def execXorL (s : State) : Result := aluOperand .xor (.reg .l) s

/-- `XOR (HL)`, $AE (R200). -/
def execXorAtHl (s : State) : Result := aluOperand .xor .atHl s

/-- `XOR A`, $AF (R200). -/
def execXorA (s : State) : Result := aluOperand .xor (.reg .a) s

/-- `OR B`, $B0 (R201). -/
def execOrB (s : State) : Result := aluOperand .or (.reg .b) s

/-- `OR C`, $B1 (R201). -/
def execOrC (s : State) : Result := aluOperand .or (.reg .c) s

/-- `OR D`, $B2 (R201). -/
def execOrD (s : State) : Result := aluOperand .or (.reg .d) s

/-- `OR E`, $B3 (R201). -/
def execOrE (s : State) : Result := aluOperand .or (.reg .e) s

/-- `OR H`, $B4 (R201). -/
def execOrH (s : State) : Result := aluOperand .or (.reg .h) s

/-- `OR L`, $B5 (R201). -/
def execOrL (s : State) : Result := aluOperand .or (.reg .l) s

/-- `OR (HL)`, $B6 (R201). -/
def execOrAtHl (s : State) : Result := aluOperand .or .atHl s

/-- `OR A`, $B7 (R201). -/
def execOrA (s : State) : Result := aluOperand .or (.reg .a) s

/-- `CP B`, $B8 (R202). -/
def execCpB (s : State) : Result := aluOperand .cp (.reg .b) s

/-- `CP C`, $B9 (R202). -/
def execCpC (s : State) : Result := aluOperand .cp (.reg .c) s

/-- `CP D`, $BA (R202). -/
def execCpD (s : State) : Result := aluOperand .cp (.reg .d) s

/-- `CP E`, $BB (R202). -/
def execCpE (s : State) : Result := aluOperand .cp (.reg .e) s

/-- `CP H`, $BC (R202). -/
def execCpH (s : State) : Result := aluOperand .cp (.reg .h) s

/-- `CP L`, $BD (R202). -/
def execCpL (s : State) : Result := aluOperand .cp (.reg .l) s

/-- `CP (HL)`, $BE (R202). -/
def execCpAtHl (s : State) : Result := aluOperand .cp .atHl s

/-- `CP A`, $BF (R202). -/
def execCpA (s : State) : Result := aluOperand .cp (.reg .a) s

/-- `ADD A,d8`, $C6 (R195). -/
def execAddAD8 (n : Byte) (s : State) : Result := aluValue .add n s

/-- `ADC A,d8`, $CE (R196). -/
def execAdcAD8 (n : Byte) (s : State) : Result := aluValue .adc n s

/-- `SUB d8`, $D6 (R197). -/
def execSubD8 (n : Byte) (s : State) : Result := aluValue .sub n s

/-- `SBC A,d8`, $DE (R198). -/
def execSbcAD8 (n : Byte) (s : State) : Result := aluValue .sbc n s

/-- `AND d8`, $E6 (R199). -/
def execAndD8 (n : Byte) (s : State) : Result := aluValue .and n s

/-- `XOR d8`, $EE (R200). -/
def execXorD8 (n : Byte) (s : State) : Result := aluValue .xor n s

/-- `OR d8`, $F6 (R201). -/
def execOrD8 (n : Byte) (s : State) : Result := aluValue .or n s

/-- `CP d8`, $FE (R202). -/
def execCpD8 (n : Byte) (s : State) : Result := aluValue .cp n s

end Sys2Proof.Machine
end

