-- ==== Sys2Proof/Machine/Arith16.lean ====
section
/-! DEFINITION. 16-bit arithmetic (spec/43_arith_16bit.md). `PC` has passed the whole instruction when a meaning
starts (R25, R103); the machine cycles are added by the step (R340). -/

namespace Sys2Proof.Machine

/-- `rp[p] <- rp[p] + 1`, no flags (R180). -/
def incPair (p : Reg16) (s : State) : Result := .next (s.setPair p (s.pair p + 1))

/-- `rp[p] <- rp[p] - 1`, no flags (R181). -/
def decPair (p : Reg16) (s : State) : Result := .next (s.setPair p (s.pair p - 1))

/-- `HL <- HL + rp[p]`: `N` 0, `H` and `C` from bits 11 and 15, `Z` kept (R182). -/
def addHlPair (p : Reg16) (s : State) : Result :=
  let r := addWords s.hl (s.pair p)
  .next ((s.setHl r.value).setFlags s.flagZ false r.h r.c)

/-- `SP <- SP + sext_16(e)`, `Z` and `N` 0, `H` and `C` from the low bytes (R183). -/
def addSpImm (e : Byte) (s : State) : Result :=
  let r := addSpOffset s.sp e
  .next (State.setFlags { s with sp := r.value } false false r.h r.c)

/-- `INC BC`, $03 (R180). -/
def execIncBc (s : State) : Result := incPair .bc s

/-- `ADD HL,BC`, $09 (R182). -/
def execAddHlBc (s : State) : Result := addHlPair .bc s

/-- `DEC BC`, $0B (R181). -/
def execDecBc (s : State) : Result := decPair .bc s

/-- `INC DE`, $13 (R180). -/
def execIncDe (s : State) : Result := incPair .de s

/-- `ADD HL,DE`, $19 (R182). -/
def execAddHlDe (s : State) : Result := addHlPair .de s

/-- `DEC DE`, $1B (R181). -/
def execDecDe (s : State) : Result := decPair .de s

/-- `INC HL`, $23 (R180). -/
def execIncHl (s : State) : Result := incPair .hl s

/-- `ADD HL,HL`, $29 (R182). -/
def execAddHlHl (s : State) : Result := addHlPair .hl s

/-- `DEC HL`, $2B (R181). -/
def execDecHl (s : State) : Result := decPair .hl s

/-- `INC SP`, $33 (R180). -/
def execIncSp (s : State) : Result := incPair .sp s

/-- `ADD HL,SP`, $39 (R182). -/
def execAddHlSp (s : State) : Result := addHlPair .sp s

/-- `DEC SP`, $3B (R181). -/
def execDecSp (s : State) : Result := decPair .sp s

/-- `ADD SP,r8`, $E8 (R183). -/
def execAddSpR8 (e : Byte) (s : State) : Result := addSpImm e s

end Sys2Proof.Machine
end

