-- ==== Sys2Proof/Machine/Branch.lean ====
section
/-! DEFINITION. Jumps, calls, returns, restarts (spec/46_jump_call_return.md): no flag is written. `PC` has passed the whole instruction when a meaning
starts (R25, R103); the machine cycles are added by the step (R340). -/

namespace Sys2Proof.Machine

/-- `pc <- target` (R251, R253, R254). -/
def jumpTo (target : Word) (s : State) : Result := .next { s with pc := target }

/-- `Push16(PC)`, then `pc <- target` (R256, R261). -/
def callTo (target : Word) (s : State) : Result := .next { s.push16 s.pc with pc := target }

/-- `RET` (R258). -/
def returnCall (s : State) : Result := .next s.returnFromCall

/-- `RETI` (R260). -/
def returnInterrupt (s : State) : Result := .next s.returnFromInterrupt

/-- A conditional jump: not taken, nothing happens (R252, R255). -/
def jumpIf (cc : Cond) (target : Word) (s : State) : Result := if s.condHolds cc then jumpTo target s else .next s

/-- `CALL cc,a16`: not taken, nothing is pushed (R257). -/
def callIf (cc : Cond) (target : Word) (s : State) : Result := if s.condHolds cc then callTo target s else .next s

/-- `RET cc`: not taken, no memory is read (R259). -/
def returnIf (cc : Cond) (s : State) : Result := if s.condHolds cc then returnCall s else .next s

/-- `JR r8`, $18 (R254). -/
def execJrR8 (e : Byte) (s : State) : Result := jumpTo (s.relative e) s

/-- `JR NZ,r8`, $20 (R255). -/
def execJrNzR8 (e : Byte) (s : State) : Result := jumpIf .nz (s.relative e) s

/-- `JR Z,r8`, $28 (R255). -/
def execJrZR8 (e : Byte) (s : State) : Result := jumpIf .z (s.relative e) s

/-- `JR NC,r8`, $30 (R255). -/
def execJrNcR8 (e : Byte) (s : State) : Result := jumpIf .nc (s.relative e) s

/-- `JR C,r8`, $38 (R255). -/
def execJrCR8 (e : Byte) (s : State) : Result := jumpIf .cy (s.relative e) s

/-- `RET NZ`, $C0 (R259). -/
def execRetNz (s : State) : Result := returnIf .nz s

/-- `JP NZ,a16`, $C2 (R252). -/
def execJpNzA16 (w : Word) (s : State) : Result := jumpIf .nz w s

/-- `JP a16`, $C3 (R251). -/
def execJpA16 (w : Word) (s : State) : Result := jumpTo w s

/-- `CALL NZ,a16`, $C4 (R257). -/
def execCallNzA16 (w : Word) (s : State) : Result := callIf .nz w s

/-- `RST 0`, $C7 (R261). -/
def execRst0 (s : State) : Result := callTo (rstTarget .t0) s

/-- `RET Z`, $C8 (R259). -/
def execRetZ (s : State) : Result := returnIf .z s

/-- `RET`, $C9 (R258). -/
def execRet (s : State) : Result := returnCall s

/-- `JP Z,a16`, $CA (R252). -/
def execJpZA16 (w : Word) (s : State) : Result := jumpIf .z w s

/-- `CALL Z,a16`, $CC (R257). -/
def execCallZA16 (w : Word) (s : State) : Result := callIf .z w s

/-- `CALL a16`, $CD (R256). -/
def execCallA16 (w : Word) (s : State) : Result := callTo w s

/-- `RST 1`, $CF (R261). -/
def execRst1 (s : State) : Result := callTo (rstTarget .t1) s

/-- `RET NC`, $D0 (R259). -/
def execRetNc (s : State) : Result := returnIf .nc s

/-- `JP NC,a16`, $D2 (R252). -/
def execJpNcA16 (w : Word) (s : State) : Result := jumpIf .nc w s

/-- `CALL NC,a16`, $D4 (R257). -/
def execCallNcA16 (w : Word) (s : State) : Result := callIf .nc w s

/-- `RST 2`, $D7 (R261). -/
def execRst2 (s : State) : Result := callTo (rstTarget .t2) s

/-- `RET C`, $D8 (R259). -/
def execRetC (s : State) : Result := returnIf .cy s

/-- `RETI`, $D9 (R260). -/
def execReti (s : State) : Result := returnInterrupt s

/-- `JP C,a16`, $DA (R252). -/
def execJpCA16 (w : Word) (s : State) : Result := jumpIf .cy w s

/-- `CALL C,a16`, $DC (R257). -/
def execCallCA16 (w : Word) (s : State) : Result := callIf .cy w s

/-- `RST 3`, $DF (R261). -/
def execRst3 (s : State) : Result := callTo (rstTarget .t3) s

/-- `RST 4`, $E7 (R261). -/
def execRst4 (s : State) : Result := callTo (rstTarget .t4) s

/-- `JP HL`, $E9 (R253). -/
def execJpHl (s : State) : Result := jumpTo s.hl s

/-- `RST 5`, $EF (R261). -/
def execRst5 (s : State) : Result := callTo (rstTarget .t5) s

/-- `RST 6`, $F7 (R261). -/
def execRst6 (s : State) : Result := callTo (rstTarget .t6) s

/-- `RST 7`, $FF (R261). -/
def execRst7 (s : State) : Result := callTo (rstTarget .t7) s

end Sys2Proof.Machine
end

