-- ==== Sys2Proof/Machine/CbBit.lean ====
section
/-! DEFINITION. CB-prefixed BIT, RES, SET (spec/49_cb_prefixed.md, x = 1, 2, 3). `PC` has passed the whole instruction when a meaning
starts (R25, R103); the machine cycles are added by the step (R340). -/

namespace Sys2Proof.Machine

/-- `BIT b,r`: `Z` the complement of the bit, `N` 0, `H` 1, `C` kept; the operand is not written (R309). -/
def testBit (b : BitNum) (o : Operand8) (s : State) : Result :=
  .next (s.setFlags (!(s.readOperand o).getLsbD (bitIndex b)) false true s.flagC)

/-- `RES b,r`: one read, one write, no flags (R310). -/
def clearBit (b : BitNum) (o : Operand8) (s : State) : Result :=
  .next (s.writeOperand o (s.readOperand o &&& ~~~(bitMask b)))

/-- `SET b,r`: one read, one write, no flags (R311). -/
def assignBit (b : BitNum) (o : Operand8) (s : State) : Result :=
  .next (s.writeOperand o (s.readOperand o ||| bitMask b))

/-- `BIT 0,B`, $CB $40 (R309). -/
def execBit0B (s : State) : Result := testBit .b0 (.reg .b) s

/-- `BIT 0,C`, $CB $41 (R309). -/
def execBit0C (s : State) : Result := testBit .b0 (.reg .c) s

/-- `BIT 0,D`, $CB $42 (R309). -/
def execBit0D (s : State) : Result := testBit .b0 (.reg .d) s

/-- `BIT 0,E`, $CB $43 (R309). -/
def execBit0E (s : State) : Result := testBit .b0 (.reg .e) s

/-- `BIT 0,H`, $CB $44 (R309). -/
def execBit0H (s : State) : Result := testBit .b0 (.reg .h) s

/-- `BIT 0,L`, $CB $45 (R309). -/
def execBit0L (s : State) : Result := testBit .b0 (.reg .l) s

/-- `BIT 0,(HL)`, $CB $46 (R309). -/
def execBit0AtHl (s : State) : Result := testBit .b0 .atHl s

/-- `BIT 0,A`, $CB $47 (R309). -/
def execBit0A (s : State) : Result := testBit .b0 (.reg .a) s

/-- `BIT 1,B`, $CB $48 (R309). -/
def execBit1B (s : State) : Result := testBit .b1 (.reg .b) s

/-- `BIT 1,C`, $CB $49 (R309). -/
def execBit1C (s : State) : Result := testBit .b1 (.reg .c) s

/-- `BIT 1,D`, $CB $4A (R309). -/
def execBit1D (s : State) : Result := testBit .b1 (.reg .d) s

/-- `BIT 1,E`, $CB $4B (R309). -/
def execBit1E (s : State) : Result := testBit .b1 (.reg .e) s

/-- `BIT 1,H`, $CB $4C (R309). -/
def execBit1H (s : State) : Result := testBit .b1 (.reg .h) s

/-- `BIT 1,L`, $CB $4D (R309). -/
def execBit1L (s : State) : Result := testBit .b1 (.reg .l) s

/-- `BIT 1,(HL)`, $CB $4E (R309). -/
def execBit1AtHl (s : State) : Result := testBit .b1 .atHl s

/-- `BIT 1,A`, $CB $4F (R309). -/
def execBit1A (s : State) : Result := testBit .b1 (.reg .a) s

/-- `BIT 2,B`, $CB $50 (R309). -/
def execBit2B (s : State) : Result := testBit .b2 (.reg .b) s

/-- `BIT 2,C`, $CB $51 (R309). -/
def execBit2C (s : State) : Result := testBit .b2 (.reg .c) s

/-- `BIT 2,D`, $CB $52 (R309). -/
def execBit2D (s : State) : Result := testBit .b2 (.reg .d) s

/-- `BIT 2,E`, $CB $53 (R309). -/
def execBit2E (s : State) : Result := testBit .b2 (.reg .e) s

/-- `BIT 2,H`, $CB $54 (R309). -/
def execBit2H (s : State) : Result := testBit .b2 (.reg .h) s

/-- `BIT 2,L`, $CB $55 (R309). -/
def execBit2L (s : State) : Result := testBit .b2 (.reg .l) s

/-- `BIT 2,(HL)`, $CB $56 (R309). -/
def execBit2AtHl (s : State) : Result := testBit .b2 .atHl s

/-- `BIT 2,A`, $CB $57 (R309). -/
def execBit2A (s : State) : Result := testBit .b2 (.reg .a) s

/-- `BIT 3,B`, $CB $58 (R309). -/
def execBit3B (s : State) : Result := testBit .b3 (.reg .b) s

/-- `BIT 3,C`, $CB $59 (R309). -/
def execBit3C (s : State) : Result := testBit .b3 (.reg .c) s

/-- `BIT 3,D`, $CB $5A (R309). -/
def execBit3D (s : State) : Result := testBit .b3 (.reg .d) s

/-- `BIT 3,E`, $CB $5B (R309). -/
def execBit3E (s : State) : Result := testBit .b3 (.reg .e) s

/-- `BIT 3,H`, $CB $5C (R309). -/
def execBit3H (s : State) : Result := testBit .b3 (.reg .h) s

/-- `BIT 3,L`, $CB $5D (R309). -/
def execBit3L (s : State) : Result := testBit .b3 (.reg .l) s

/-- `BIT 3,(HL)`, $CB $5E (R309). -/
def execBit3AtHl (s : State) : Result := testBit .b3 .atHl s

/-- `BIT 3,A`, $CB $5F (R309). -/
def execBit3A (s : State) : Result := testBit .b3 (.reg .a) s

/-- `BIT 4,B`, $CB $60 (R309). -/
def execBit4B (s : State) : Result := testBit .b4 (.reg .b) s

/-- `BIT 4,C`, $CB $61 (R309). -/
def execBit4C (s : State) : Result := testBit .b4 (.reg .c) s

/-- `BIT 4,D`, $CB $62 (R309). -/
def execBit4D (s : State) : Result := testBit .b4 (.reg .d) s

/-- `BIT 4,E`, $CB $63 (R309). -/
def execBit4E (s : State) : Result := testBit .b4 (.reg .e) s

/-- `BIT 4,H`, $CB $64 (R309). -/
def execBit4H (s : State) : Result := testBit .b4 (.reg .h) s

/-- `BIT 4,L`, $CB $65 (R309). -/
def execBit4L (s : State) : Result := testBit .b4 (.reg .l) s

/-- `BIT 4,(HL)`, $CB $66 (R309). -/
def execBit4AtHl (s : State) : Result := testBit .b4 .atHl s

/-- `BIT 4,A`, $CB $67 (R309). -/
def execBit4A (s : State) : Result := testBit .b4 (.reg .a) s

/-- `BIT 5,B`, $CB $68 (R309). -/
def execBit5B (s : State) : Result := testBit .b5 (.reg .b) s

/-- `BIT 5,C`, $CB $69 (R309). -/
def execBit5C (s : State) : Result := testBit .b5 (.reg .c) s

/-- `BIT 5,D`, $CB $6A (R309). -/
def execBit5D (s : State) : Result := testBit .b5 (.reg .d) s

/-- `BIT 5,E`, $CB $6B (R309). -/
def execBit5E (s : State) : Result := testBit .b5 (.reg .e) s

/-- `BIT 5,H`, $CB $6C (R309). -/
def execBit5H (s : State) : Result := testBit .b5 (.reg .h) s

/-- `BIT 5,L`, $CB $6D (R309). -/
def execBit5L (s : State) : Result := testBit .b5 (.reg .l) s

/-- `BIT 5,(HL)`, $CB $6E (R309). -/
def execBit5AtHl (s : State) : Result := testBit .b5 .atHl s

/-- `BIT 5,A`, $CB $6F (R309). -/
def execBit5A (s : State) : Result := testBit .b5 (.reg .a) s

/-- `BIT 6,B`, $CB $70 (R309). -/
def execBit6B (s : State) : Result := testBit .b6 (.reg .b) s

/-- `BIT 6,C`, $CB $71 (R309). -/
def execBit6C (s : State) : Result := testBit .b6 (.reg .c) s

/-- `BIT 6,D`, $CB $72 (R309). -/
def execBit6D (s : State) : Result := testBit .b6 (.reg .d) s

/-- `BIT 6,E`, $CB $73 (R309). -/
def execBit6E (s : State) : Result := testBit .b6 (.reg .e) s

/-- `BIT 6,H`, $CB $74 (R309). -/
def execBit6H (s : State) : Result := testBit .b6 (.reg .h) s

/-- `BIT 6,L`, $CB $75 (R309). -/
def execBit6L (s : State) : Result := testBit .b6 (.reg .l) s

/-- `BIT 6,(HL)`, $CB $76 (R309). -/
def execBit6AtHl (s : State) : Result := testBit .b6 .atHl s

/-- `BIT 6,A`, $CB $77 (R309). -/
def execBit6A (s : State) : Result := testBit .b6 (.reg .a) s

/-- `BIT 7,B`, $CB $78 (R309). -/
def execBit7B (s : State) : Result := testBit .b7 (.reg .b) s

/-- `BIT 7,C`, $CB $79 (R309). -/
def execBit7C (s : State) : Result := testBit .b7 (.reg .c) s

/-- `BIT 7,D`, $CB $7A (R309). -/
def execBit7D (s : State) : Result := testBit .b7 (.reg .d) s

/-- `BIT 7,E`, $CB $7B (R309). -/
def execBit7E (s : State) : Result := testBit .b7 (.reg .e) s

/-- `BIT 7,H`, $CB $7C (R309). -/
def execBit7H (s : State) : Result := testBit .b7 (.reg .h) s

/-- `BIT 7,L`, $CB $7D (R309). -/
def execBit7L (s : State) : Result := testBit .b7 (.reg .l) s

/-- `BIT 7,(HL)`, $CB $7E (R309). -/
def execBit7AtHl (s : State) : Result := testBit .b7 .atHl s

/-- `BIT 7,A`, $CB $7F (R309). -/
def execBit7A (s : State) : Result := testBit .b7 (.reg .a) s

/-- `RES 0,B`, $CB $80 (R310). -/
def execRes0B (s : State) : Result := clearBit .b0 (.reg .b) s

/-- `RES 0,C`, $CB $81 (R310). -/
def execRes0C (s : State) : Result := clearBit .b0 (.reg .c) s

/-- `RES 0,D`, $CB $82 (R310). -/
def execRes0D (s : State) : Result := clearBit .b0 (.reg .d) s

/-- `RES 0,E`, $CB $83 (R310). -/
def execRes0E (s : State) : Result := clearBit .b0 (.reg .e) s

/-- `RES 0,H`, $CB $84 (R310). -/
def execRes0H (s : State) : Result := clearBit .b0 (.reg .h) s

/-- `RES 0,L`, $CB $85 (R310). -/
def execRes0L (s : State) : Result := clearBit .b0 (.reg .l) s

/-- `RES 0,(HL)`, $CB $86 (R310). -/
def execRes0AtHl (s : State) : Result := clearBit .b0 .atHl s

/-- `RES 0,A`, $CB $87 (R310). -/
def execRes0A (s : State) : Result := clearBit .b0 (.reg .a) s

/-- `RES 1,B`, $CB $88 (R310). -/
def execRes1B (s : State) : Result := clearBit .b1 (.reg .b) s

/-- `RES 1,C`, $CB $89 (R310). -/
def execRes1C (s : State) : Result := clearBit .b1 (.reg .c) s

/-- `RES 1,D`, $CB $8A (R310). -/
def execRes1D (s : State) : Result := clearBit .b1 (.reg .d) s

/-- `RES 1,E`, $CB $8B (R310). -/
def execRes1E (s : State) : Result := clearBit .b1 (.reg .e) s

/-- `RES 1,H`, $CB $8C (R310). -/
def execRes1H (s : State) : Result := clearBit .b1 (.reg .h) s

/-- `RES 1,L`, $CB $8D (R310). -/
def execRes1L (s : State) : Result := clearBit .b1 (.reg .l) s

/-- `RES 1,(HL)`, $CB $8E (R310). -/
def execRes1AtHl (s : State) : Result := clearBit .b1 .atHl s

/-- `RES 1,A`, $CB $8F (R310). -/
def execRes1A (s : State) : Result := clearBit .b1 (.reg .a) s

/-- `RES 2,B`, $CB $90 (R310). -/
def execRes2B (s : State) : Result := clearBit .b2 (.reg .b) s

/-- `RES 2,C`, $CB $91 (R310). -/
def execRes2C (s : State) : Result := clearBit .b2 (.reg .c) s

/-- `RES 2,D`, $CB $92 (R310). -/
def execRes2D (s : State) : Result := clearBit .b2 (.reg .d) s

/-- `RES 2,E`, $CB $93 (R310). -/
def execRes2E (s : State) : Result := clearBit .b2 (.reg .e) s

/-- `RES 2,H`, $CB $94 (R310). -/
def execRes2H (s : State) : Result := clearBit .b2 (.reg .h) s

/-- `RES 2,L`, $CB $95 (R310). -/
def execRes2L (s : State) : Result := clearBit .b2 (.reg .l) s

/-- `RES 2,(HL)`, $CB $96 (R310). -/
def execRes2AtHl (s : State) : Result := clearBit .b2 .atHl s

/-- `RES 2,A`, $CB $97 (R310). -/
def execRes2A (s : State) : Result := clearBit .b2 (.reg .a) s

/-- `RES 3,B`, $CB $98 (R310). -/
def execRes3B (s : State) : Result := clearBit .b3 (.reg .b) s

/-- `RES 3,C`, $CB $99 (R310). -/
def execRes3C (s : State) : Result := clearBit .b3 (.reg .c) s

/-- `RES 3,D`, $CB $9A (R310). -/
def execRes3D (s : State) : Result := clearBit .b3 (.reg .d) s

/-- `RES 3,E`, $CB $9B (R310). -/
def execRes3E (s : State) : Result := clearBit .b3 (.reg .e) s

/-- `RES 3,H`, $CB $9C (R310). -/
def execRes3H (s : State) : Result := clearBit .b3 (.reg .h) s

/-- `RES 3,L`, $CB $9D (R310). -/
def execRes3L (s : State) : Result := clearBit .b3 (.reg .l) s

/-- `RES 3,(HL)`, $CB $9E (R310). -/
def execRes3AtHl (s : State) : Result := clearBit .b3 .atHl s

/-- `RES 3,A`, $CB $9F (R310). -/
def execRes3A (s : State) : Result := clearBit .b3 (.reg .a) s

/-- `RES 4,B`, $CB $A0 (R310). -/
def execRes4B (s : State) : Result := clearBit .b4 (.reg .b) s

/-- `RES 4,C`, $CB $A1 (R310). -/
def execRes4C (s : State) : Result := clearBit .b4 (.reg .c) s

/-- `RES 4,D`, $CB $A2 (R310). -/
def execRes4D (s : State) : Result := clearBit .b4 (.reg .d) s

/-- `RES 4,E`, $CB $A3 (R310). -/
def execRes4E (s : State) : Result := clearBit .b4 (.reg .e) s

/-- `RES 4,H`, $CB $A4 (R310). -/
def execRes4H (s : State) : Result := clearBit .b4 (.reg .h) s

/-- `RES 4,L`, $CB $A5 (R310). -/
def execRes4L (s : State) : Result := clearBit .b4 (.reg .l) s

/-- `RES 4,(HL)`, $CB $A6 (R310). -/
def execRes4AtHl (s : State) : Result := clearBit .b4 .atHl s

/-- `RES 4,A`, $CB $A7 (R310). -/
def execRes4A (s : State) : Result := clearBit .b4 (.reg .a) s

/-- `RES 5,B`, $CB $A8 (R310). -/
def execRes5B (s : State) : Result := clearBit .b5 (.reg .b) s

/-- `RES 5,C`, $CB $A9 (R310). -/
def execRes5C (s : State) : Result := clearBit .b5 (.reg .c) s

/-- `RES 5,D`, $CB $AA (R310). -/
def execRes5D (s : State) : Result := clearBit .b5 (.reg .d) s

/-- `RES 5,E`, $CB $AB (R310). -/
def execRes5E (s : State) : Result := clearBit .b5 (.reg .e) s

/-- `RES 5,H`, $CB $AC (R310). -/
def execRes5H (s : State) : Result := clearBit .b5 (.reg .h) s

/-- `RES 5,L`, $CB $AD (R310). -/
def execRes5L (s : State) : Result := clearBit .b5 (.reg .l) s

/-- `RES 5,(HL)`, $CB $AE (R310). -/
def execRes5AtHl (s : State) : Result := clearBit .b5 .atHl s

/-- `RES 5,A`, $CB $AF (R310). -/
def execRes5A (s : State) : Result := clearBit .b5 (.reg .a) s

/-- `RES 6,B`, $CB $B0 (R310). -/
def execRes6B (s : State) : Result := clearBit .b6 (.reg .b) s

/-- `RES 6,C`, $CB $B1 (R310). -/
def execRes6C (s : State) : Result := clearBit .b6 (.reg .c) s

/-- `RES 6,D`, $CB $B2 (R310). -/
def execRes6D (s : State) : Result := clearBit .b6 (.reg .d) s

/-- `RES 6,E`, $CB $B3 (R310). -/
def execRes6E (s : State) : Result := clearBit .b6 (.reg .e) s

/-- `RES 6,H`, $CB $B4 (R310). -/
def execRes6H (s : State) : Result := clearBit .b6 (.reg .h) s

/-- `RES 6,L`, $CB $B5 (R310). -/
def execRes6L (s : State) : Result := clearBit .b6 (.reg .l) s

/-- `RES 6,(HL)`, $CB $B6 (R310). -/
def execRes6AtHl (s : State) : Result := clearBit .b6 .atHl s

/-- `RES 6,A`, $CB $B7 (R310). -/
def execRes6A (s : State) : Result := clearBit .b6 (.reg .a) s

/-- `RES 7,B`, $CB $B8 (R310). -/
def execRes7B (s : State) : Result := clearBit .b7 (.reg .b) s

/-- `RES 7,C`, $CB $B9 (R310). -/
def execRes7C (s : State) : Result := clearBit .b7 (.reg .c) s

/-- `RES 7,D`, $CB $BA (R310). -/
def execRes7D (s : State) : Result := clearBit .b7 (.reg .d) s

/-- `RES 7,E`, $CB $BB (R310). -/
def execRes7E (s : State) : Result := clearBit .b7 (.reg .e) s

/-- `RES 7,H`, $CB $BC (R310). -/
def execRes7H (s : State) : Result := clearBit .b7 (.reg .h) s

/-- `RES 7,L`, $CB $BD (R310). -/
def execRes7L (s : State) : Result := clearBit .b7 (.reg .l) s

/-- `RES 7,(HL)`, $CB $BE (R310). -/
def execRes7AtHl (s : State) : Result := clearBit .b7 .atHl s

/-- `RES 7,A`, $CB $BF (R310). -/
def execRes7A (s : State) : Result := clearBit .b7 (.reg .a) s

/-- `SET 0,B`, $CB $C0 (R311). -/
def execSet0B (s : State) : Result := assignBit .b0 (.reg .b) s

/-- `SET 0,C`, $CB $C1 (R311). -/
def execSet0C (s : State) : Result := assignBit .b0 (.reg .c) s

/-- `SET 0,D`, $CB $C2 (R311). -/
def execSet0D (s : State) : Result := assignBit .b0 (.reg .d) s

/-- `SET 0,E`, $CB $C3 (R311). -/
def execSet0E (s : State) : Result := assignBit .b0 (.reg .e) s

/-- `SET 0,H`, $CB $C4 (R311). -/
def execSet0H (s : State) : Result := assignBit .b0 (.reg .h) s

/-- `SET 0,L`, $CB $C5 (R311). -/
def execSet0L (s : State) : Result := assignBit .b0 (.reg .l) s

/-- `SET 0,(HL)`, $CB $C6 (R311). -/
def execSet0AtHl (s : State) : Result := assignBit .b0 .atHl s

/-- `SET 0,A`, $CB $C7 (R311). -/
def execSet0A (s : State) : Result := assignBit .b0 (.reg .a) s

/-- `SET 1,B`, $CB $C8 (R311). -/
def execSet1B (s : State) : Result := assignBit .b1 (.reg .b) s

/-- `SET 1,C`, $CB $C9 (R311). -/
def execSet1C (s : State) : Result := assignBit .b1 (.reg .c) s

/-- `SET 1,D`, $CB $CA (R311). -/
def execSet1D (s : State) : Result := assignBit .b1 (.reg .d) s

/-- `SET 1,E`, $CB $CB (R311). -/
def execSet1E (s : State) : Result := assignBit .b1 (.reg .e) s

/-- `SET 1,H`, $CB $CC (R311). -/
def execSet1H (s : State) : Result := assignBit .b1 (.reg .h) s

/-- `SET 1,L`, $CB $CD (R311). -/
def execSet1L (s : State) : Result := assignBit .b1 (.reg .l) s

/-- `SET 1,(HL)`, $CB $CE (R311). -/
def execSet1AtHl (s : State) : Result := assignBit .b1 .atHl s

/-- `SET 1,A`, $CB $CF (R311). -/
def execSet1A (s : State) : Result := assignBit .b1 (.reg .a) s

/-- `SET 2,B`, $CB $D0 (R311). -/
def execSet2B (s : State) : Result := assignBit .b2 (.reg .b) s

/-- `SET 2,C`, $CB $D1 (R311). -/
def execSet2C (s : State) : Result := assignBit .b2 (.reg .c) s

/-- `SET 2,D`, $CB $D2 (R311). -/
def execSet2D (s : State) : Result := assignBit .b2 (.reg .d) s

/-- `SET 2,E`, $CB $D3 (R311). -/
def execSet2E (s : State) : Result := assignBit .b2 (.reg .e) s

/-- `SET 2,H`, $CB $D4 (R311). -/
def execSet2H (s : State) : Result := assignBit .b2 (.reg .h) s

/-- `SET 2,L`, $CB $D5 (R311). -/
def execSet2L (s : State) : Result := assignBit .b2 (.reg .l) s

/-- `SET 2,(HL)`, $CB $D6 (R311). -/
def execSet2AtHl (s : State) : Result := assignBit .b2 .atHl s

/-- `SET 2,A`, $CB $D7 (R311). -/
def execSet2A (s : State) : Result := assignBit .b2 (.reg .a) s

/-- `SET 3,B`, $CB $D8 (R311). -/
def execSet3B (s : State) : Result := assignBit .b3 (.reg .b) s

/-- `SET 3,C`, $CB $D9 (R311). -/
def execSet3C (s : State) : Result := assignBit .b3 (.reg .c) s

/-- `SET 3,D`, $CB $DA (R311). -/
def execSet3D (s : State) : Result := assignBit .b3 (.reg .d) s

/-- `SET 3,E`, $CB $DB (R311). -/
def execSet3E (s : State) : Result := assignBit .b3 (.reg .e) s

/-- `SET 3,H`, $CB $DC (R311). -/
def execSet3H (s : State) : Result := assignBit .b3 (.reg .h) s

/-- `SET 3,L`, $CB $DD (R311). -/
def execSet3L (s : State) : Result := assignBit .b3 (.reg .l) s

/-- `SET 3,(HL)`, $CB $DE (R311). -/
def execSet3AtHl (s : State) : Result := assignBit .b3 .atHl s

/-- `SET 3,A`, $CB $DF (R311). -/
def execSet3A (s : State) : Result := assignBit .b3 (.reg .a) s

/-- `SET 4,B`, $CB $E0 (R311). -/
def execSet4B (s : State) : Result := assignBit .b4 (.reg .b) s

/-- `SET 4,C`, $CB $E1 (R311). -/
def execSet4C (s : State) : Result := assignBit .b4 (.reg .c) s

/-- `SET 4,D`, $CB $E2 (R311). -/
def execSet4D (s : State) : Result := assignBit .b4 (.reg .d) s

/-- `SET 4,E`, $CB $E3 (R311). -/
def execSet4E (s : State) : Result := assignBit .b4 (.reg .e) s

/-- `SET 4,H`, $CB $E4 (R311). -/
def execSet4H (s : State) : Result := assignBit .b4 (.reg .h) s

/-- `SET 4,L`, $CB $E5 (R311). -/
def execSet4L (s : State) : Result := assignBit .b4 (.reg .l) s

/-- `SET 4,(HL)`, $CB $E6 (R311). -/
def execSet4AtHl (s : State) : Result := assignBit .b4 .atHl s

/-- `SET 4,A`, $CB $E7 (R311). -/
def execSet4A (s : State) : Result := assignBit .b4 (.reg .a) s

/-- `SET 5,B`, $CB $E8 (R311). -/
def execSet5B (s : State) : Result := assignBit .b5 (.reg .b) s

/-- `SET 5,C`, $CB $E9 (R311). -/
def execSet5C (s : State) : Result := assignBit .b5 (.reg .c) s

/-- `SET 5,D`, $CB $EA (R311). -/
def execSet5D (s : State) : Result := assignBit .b5 (.reg .d) s

/-- `SET 5,E`, $CB $EB (R311). -/
def execSet5E (s : State) : Result := assignBit .b5 (.reg .e) s

/-- `SET 5,H`, $CB $EC (R311). -/
def execSet5H (s : State) : Result := assignBit .b5 (.reg .h) s

/-- `SET 5,L`, $CB $ED (R311). -/
def execSet5L (s : State) : Result := assignBit .b5 (.reg .l) s

/-- `SET 5,(HL)`, $CB $EE (R311). -/
def execSet5AtHl (s : State) : Result := assignBit .b5 .atHl s

/-- `SET 5,A`, $CB $EF (R311). -/
def execSet5A (s : State) : Result := assignBit .b5 (.reg .a) s

/-- `SET 6,B`, $CB $F0 (R311). -/
def execSet6B (s : State) : Result := assignBit .b6 (.reg .b) s

/-- `SET 6,C`, $CB $F1 (R311). -/
def execSet6C (s : State) : Result := assignBit .b6 (.reg .c) s

/-- `SET 6,D`, $CB $F2 (R311). -/
def execSet6D (s : State) : Result := assignBit .b6 (.reg .d) s

/-- `SET 6,E`, $CB $F3 (R311). -/
def execSet6E (s : State) : Result := assignBit .b6 (.reg .e) s

/-- `SET 6,H`, $CB $F4 (R311). -/
def execSet6H (s : State) : Result := assignBit .b6 (.reg .h) s

/-- `SET 6,L`, $CB $F5 (R311). -/
def execSet6L (s : State) : Result := assignBit .b6 (.reg .l) s

/-- `SET 6,(HL)`, $CB $F6 (R311). -/
def execSet6AtHl (s : State) : Result := assignBit .b6 .atHl s

/-- `SET 6,A`, $CB $F7 (R311). -/
def execSet6A (s : State) : Result := assignBit .b6 (.reg .a) s

/-- `SET 7,B`, $CB $F8 (R311). -/
def execSet7B (s : State) : Result := assignBit .b7 (.reg .b) s

/-- `SET 7,C`, $CB $F9 (R311). -/
def execSet7C (s : State) : Result := assignBit .b7 (.reg .c) s

/-- `SET 7,D`, $CB $FA (R311). -/
def execSet7D (s : State) : Result := assignBit .b7 (.reg .d) s

/-- `SET 7,E`, $CB $FB (R311). -/
def execSet7E (s : State) : Result := assignBit .b7 (.reg .e) s

/-- `SET 7,H`, $CB $FC (R311). -/
def execSet7H (s : State) : Result := assignBit .b7 (.reg .h) s

/-- `SET 7,L`, $CB $FD (R311). -/
def execSet7L (s : State) : Result := assignBit .b7 (.reg .l) s

/-- `SET 7,(HL)`, $CB $FE (R311). -/
def execSet7AtHl (s : State) : Result := assignBit .b7 .atHl s

/-- `SET 7,A`, $CB $FF (R311). -/
def execSet7A (s : State) : Result := assignBit .b7 (.reg .a) s

end Sys2Proof.Machine
end

