-- ==== Sys2Proof/Machine/CbRotate.lean ====
section
/-! DEFINITION. CB-prefixed rotates, shifts and SWAP (spec/49_cb_prefixed.md, x = 0). `PC` has passed the whole instruction when a meaning
starts (R25, R103); the machine cycles are added by the step (R340). -/

namespace Sys2Proof.Machine

/-- A rotate, shift or `SWAP` of a register or of the byte at `HL` (R300 to R308). -/
def rotateOperand (op : RotOp) (o : Operand8) (s : State) : Result :=
  .next (s.putOperand o (rotOut op (s.readOperand o) s.flagC))

/-- `RLC B`, $CB $00 (R301). -/
def execRlcB (s : State) : Result := rotateOperand .rlc (.reg .b) s

/-- `RLC C`, $CB $01 (R301). -/
def execRlcC (s : State) : Result := rotateOperand .rlc (.reg .c) s

/-- `RLC D`, $CB $02 (R301). -/
def execRlcD (s : State) : Result := rotateOperand .rlc (.reg .d) s

/-- `RLC E`, $CB $03 (R301). -/
def execRlcE (s : State) : Result := rotateOperand .rlc (.reg .e) s

/-- `RLC H`, $CB $04 (R301). -/
def execRlcH (s : State) : Result := rotateOperand .rlc (.reg .h) s

/-- `RLC L`, $CB $05 (R301). -/
def execRlcL (s : State) : Result := rotateOperand .rlc (.reg .l) s

/-- `RLC (HL)`, $CB $06 (R301). -/
def execRlcAtHl (s : State) : Result := rotateOperand .rlc .atHl s

/-- `RLC A`, $CB $07 (R301). -/
def execRlcA (s : State) : Result := rotateOperand .rlc (.reg .a) s

/-- `RRC B`, $CB $08 (R302). -/
def execRrcB (s : State) : Result := rotateOperand .rrc (.reg .b) s

/-- `RRC C`, $CB $09 (R302). -/
def execRrcC (s : State) : Result := rotateOperand .rrc (.reg .c) s

/-- `RRC D`, $CB $0A (R302). -/
def execRrcD (s : State) : Result := rotateOperand .rrc (.reg .d) s

/-- `RRC E`, $CB $0B (R302). -/
def execRrcE (s : State) : Result := rotateOperand .rrc (.reg .e) s

/-- `RRC H`, $CB $0C (R302). -/
def execRrcH (s : State) : Result := rotateOperand .rrc (.reg .h) s

/-- `RRC L`, $CB $0D (R302). -/
def execRrcL (s : State) : Result := rotateOperand .rrc (.reg .l) s

/-- `RRC (HL)`, $CB $0E (R302). -/
def execRrcAtHl (s : State) : Result := rotateOperand .rrc .atHl s

/-- `RRC A`, $CB $0F (R302). -/
def execRrcA (s : State) : Result := rotateOperand .rrc (.reg .a) s

/-- `RL B`, $CB $10 (R303). -/
def execRlB (s : State) : Result := rotateOperand .rl (.reg .b) s

/-- `RL C`, $CB $11 (R303). -/
def execRlC (s : State) : Result := rotateOperand .rl (.reg .c) s

/-- `RL D`, $CB $12 (R303). -/
def execRlD (s : State) : Result := rotateOperand .rl (.reg .d) s

/-- `RL E`, $CB $13 (R303). -/
def execRlE (s : State) : Result := rotateOperand .rl (.reg .e) s

/-- `RL H`, $CB $14 (R303). -/
def execRlH (s : State) : Result := rotateOperand .rl (.reg .h) s

/-- `RL L`, $CB $15 (R303). -/
def execRlL (s : State) : Result := rotateOperand .rl (.reg .l) s

/-- `RL (HL)`, $CB $16 (R303). -/
def execRlAtHl (s : State) : Result := rotateOperand .rl .atHl s

/-- `RL A`, $CB $17 (R303). -/
def execRlA (s : State) : Result := rotateOperand .rl (.reg .a) s

/-- `RR B`, $CB $18 (R304). -/
def execRrB (s : State) : Result := rotateOperand .rr (.reg .b) s

/-- `RR C`, $CB $19 (R304). -/
def execRrC (s : State) : Result := rotateOperand .rr (.reg .c) s

/-- `RR D`, $CB $1A (R304). -/
def execRrD (s : State) : Result := rotateOperand .rr (.reg .d) s

/-- `RR E`, $CB $1B (R304). -/
def execRrE (s : State) : Result := rotateOperand .rr (.reg .e) s

/-- `RR H`, $CB $1C (R304). -/
def execRrH (s : State) : Result := rotateOperand .rr (.reg .h) s

/-- `RR L`, $CB $1D (R304). -/
def execRrL (s : State) : Result := rotateOperand .rr (.reg .l) s

/-- `RR (HL)`, $CB $1E (R304). -/
def execRrAtHl (s : State) : Result := rotateOperand .rr .atHl s

/-- `RR A`, $CB $1F (R304). -/
def execRrA (s : State) : Result := rotateOperand .rr (.reg .a) s

/-- `SLA B`, $CB $20 (R305). -/
def execSlaB (s : State) : Result := rotateOperand .sla (.reg .b) s

/-- `SLA C`, $CB $21 (R305). -/
def execSlaC (s : State) : Result := rotateOperand .sla (.reg .c) s

/-- `SLA D`, $CB $22 (R305). -/
def execSlaD (s : State) : Result := rotateOperand .sla (.reg .d) s

/-- `SLA E`, $CB $23 (R305). -/
def execSlaE (s : State) : Result := rotateOperand .sla (.reg .e) s

/-- `SLA H`, $CB $24 (R305). -/
def execSlaH (s : State) : Result := rotateOperand .sla (.reg .h) s

/-- `SLA L`, $CB $25 (R305). -/
def execSlaL (s : State) : Result := rotateOperand .sla (.reg .l) s

/-- `SLA (HL)`, $CB $26 (R305). -/
def execSlaAtHl (s : State) : Result := rotateOperand .sla .atHl s

/-- `SLA A`, $CB $27 (R305). -/
def execSlaA (s : State) : Result := rotateOperand .sla (.reg .a) s

/-- `SRA B`, $CB $28 (R306). -/
def execSraB (s : State) : Result := rotateOperand .sra (.reg .b) s

/-- `SRA C`, $CB $29 (R306). -/
def execSraC (s : State) : Result := rotateOperand .sra (.reg .c) s

/-- `SRA D`, $CB $2A (R306). -/
def execSraD (s : State) : Result := rotateOperand .sra (.reg .d) s

/-- `SRA E`, $CB $2B (R306). -/
def execSraE (s : State) : Result := rotateOperand .sra (.reg .e) s

/-- `SRA H`, $CB $2C (R306). -/
def execSraH (s : State) : Result := rotateOperand .sra (.reg .h) s

/-- `SRA L`, $CB $2D (R306). -/
def execSraL (s : State) : Result := rotateOperand .sra (.reg .l) s

/-- `SRA (HL)`, $CB $2E (R306). -/
def execSraAtHl (s : State) : Result := rotateOperand .sra .atHl s

/-- `SRA A`, $CB $2F (R306). -/
def execSraA (s : State) : Result := rotateOperand .sra (.reg .a) s

/-- `SWAP B`, $CB $30 (R307). -/
def execSwapB (s : State) : Result := rotateOperand .swap (.reg .b) s

/-- `SWAP C`, $CB $31 (R307). -/
def execSwapC (s : State) : Result := rotateOperand .swap (.reg .c) s

/-- `SWAP D`, $CB $32 (R307). -/
def execSwapD (s : State) : Result := rotateOperand .swap (.reg .d) s

/-- `SWAP E`, $CB $33 (R307). -/
def execSwapE (s : State) : Result := rotateOperand .swap (.reg .e) s

/-- `SWAP H`, $CB $34 (R307). -/
def execSwapH (s : State) : Result := rotateOperand .swap (.reg .h) s

/-- `SWAP L`, $CB $35 (R307). -/
def execSwapL (s : State) : Result := rotateOperand .swap (.reg .l) s

/-- `SWAP (HL)`, $CB $36 (R307). -/
def execSwapAtHl (s : State) : Result := rotateOperand .swap .atHl s

/-- `SWAP A`, $CB $37 (R307). -/
def execSwapA (s : State) : Result := rotateOperand .swap (.reg .a) s

/-- `SRL B`, $CB $38 (R308). -/
def execSrlB (s : State) : Result := rotateOperand .srl (.reg .b) s

/-- `SRL C`, $CB $39 (R308). -/
def execSrlC (s : State) : Result := rotateOperand .srl (.reg .c) s

/-- `SRL D`, $CB $3A (R308). -/
def execSrlD (s : State) : Result := rotateOperand .srl (.reg .d) s

/-- `SRL E`, $CB $3B (R308). -/
def execSrlE (s : State) : Result := rotateOperand .srl (.reg .e) s

/-- `SRL H`, $CB $3C (R308). -/
def execSrlH (s : State) : Result := rotateOperand .srl (.reg .h) s

/-- `SRL L`, $CB $3D (R308). -/
def execSrlL (s : State) : Result := rotateOperand .srl (.reg .l) s

/-- `SRL (HL)`, $CB $3E (R308). -/
def execSrlAtHl (s : State) : Result := rotateOperand .srl .atHl s

/-- `SRL A`, $CB $3F (R308). -/
def execSrlA (s : State) : Result := rotateOperand .srl (.reg .a) s

end Sys2Proof.Machine
end

