-- ==== Sys2Proof/Machine/Control.lean ====
section
/-! DEFINITION. NOP, HALT, STOP (spec/40_misc_control.md). `PC` has passed the whole instruction when a meaning
starts (R25, R103); the machine cycles are added by the step (R340). -/

namespace Sys2Proof.Machine

/-- No effect beyond the fetch (R130; R132 for `STOP`, D6). -/
def noEffect (s : State) : Result := .next s

/-- `halted <- 1`, whatever `IME`, `IF` and `IE` hold (R131). -/
def enterHalt (s : State) : Result := .next { s with halted := true }

/-- `NOP`, $00 (R130). -/
def execNop (s : State) : Result := noEffect s

/-- `STOP`, $10 (R132). -/
def execStop (_n : Byte) (s : State) : Result := noEffect s

/-- `HALT`, $76 (R131). -/
def execHalt (s : State) : Result := enterHalt s

end Sys2Proof.Machine
end

