-- ==== Sys2Proof/Machine/Illegal.lean ====
section
/-! DEFINITION. The undefined opcodes (spec/30_encoding.md R112, spec/60_exceptions.md R350, R352). `PC` has passed the whole instruction when a meaning
starts (R25, R103); the machine cycles are added by the step (R340). -/

namespace Sys2Proof.Machine

/-- `raise IllegalInstruction` at the opcode byte `op` (R352). -/
def illegalOpcode (op : Byte) (s : State) : Result := .next (s.raiseIllegal op)

/-- The undefined opcode $D3 (R112, R352). -/
def execIllegalD3 (s : State) : Result := illegalOpcode 0xD3 s

/-- The undefined opcode $DB (R112, R352). -/
def execIllegalDB (s : State) : Result := illegalOpcode 0xDB s

/-- The undefined opcode $DD (R112, R352). -/
def execIllegalDD (s : State) : Result := illegalOpcode 0xDD s

/-- The undefined opcode $E3 (R112, R352). -/
def execIllegalE3 (s : State) : Result := illegalOpcode 0xE3 s

/-- The undefined opcode $E4 (R112, R352). -/
def execIllegalE4 (s : State) : Result := illegalOpcode 0xE4 s

/-- The undefined opcode $EB (R112, R352). -/
def execIllegalEB (s : State) : Result := illegalOpcode 0xEB s

/-- The undefined opcode $EC (R112, R352). -/
def execIllegalEC (s : State) : Result := illegalOpcode 0xEC s

/-- The undefined opcode $ED (R112, R352). -/
def execIllegalED (s : State) : Result := illegalOpcode 0xED s

/-- The undefined opcode $F4 (R112, R352). -/
def execIllegalF4 (s : State) : Result := illegalOpcode 0xF4 s

/-- The undefined opcode $FC (R112, R352). -/
def execIllegalFC (s : State) : Result := illegalOpcode 0xFC s

/-- The undefined opcode $FD (R112, R352). -/
def execIllegalFD (s : State) : Result := illegalOpcode 0xFD s

end Sys2Proof.Machine
end

