-- ==== Sys2Proof/Machine/InterruptEnable.lean ====
section
/-! DEFINITION. EI and DI (spec/48_interrupt_enable.md). `PC` has passed the whole instruction when a meaning
starts (R25, R103); the machine cycles are added by the step (R340). -/

namespace Sys2Proof.Machine

/-- `EI`: sets the delay latch where it is not set already; `IME` itself is not written (R290, D1, D2). -/
def enableLater (s : State) : Result :=
  .next (if s.imePending then s else { s with imePending := true, eiJust := true })

/-- `DI`: `IME` and a scheduled enable cleared at once (R291, D3). -/
def disableNow (s : State) : Result := .next { s with ime := false, imePending := false, eiJust := false }

/-- `DI`, $F3 (R291). -/
def execDi (s : State) : Result := disableNow s

/-- `EI`, $FB (R290). -/
def execEi (s : State) : Result := enableLater s

end Sys2Proof.Machine
end

