-- ==== Sys2Proof/Machine/Load16.lean ====
section
/-! DEFINITION. 16-bit loads (spec/42_load_16bit.md). `PC` has passed the whole instruction when a meaning
starts (R25, R103); the machine cycles are added by the step (R340). -/

namespace Sys2Proof.Machine

/-- `rp[p] <- d16` (R170). -/
def loadPairImm (p : Reg16) (w : Word) (s : State) : Result := .next (s.setPair p w)

/-- `SP` to `addr` and `addr + 1`, low byte first (R171). -/
def storeSp (addr : Word) (s : State) : Result := .next (s.writeWord addr s.sp)

/-- `HL <- SP + sext_16(e)`, `Z` and `N` 0, `H` and `C` from the low bytes (R172, D24). -/
def loadHlSpOffset (e : Byte) (s : State) : Result :=
  let r := addSpOffset s.sp e
  .next ((s.setHl r.value).setFlags false false r.h r.c)

/-- `SP <- HL` (R173). -/
def loadSpHl (s : State) : Result := .next { s with sp := s.hl }

/-- `LD BC,d16`, $01 (R170). -/
def execLdBcD16 (w : Word) (s : State) : Result := loadPairImm .bc w s

/-- `LD (a16),SP`, $08 (R171). -/
def execLdAtA16Sp (w : Word) (s : State) : Result := storeSp w s

/-- `LD DE,d16`, $11 (R170). -/
def execLdDeD16 (w : Word) (s : State) : Result := loadPairImm .de w s

/-- `LD HL,d16`, $21 (R170). -/
def execLdHlD16 (w : Word) (s : State) : Result := loadPairImm .hl w s

/-- `LD SP,d16`, $31 (R170). -/
def execLdSpD16 (w : Word) (s : State) : Result := loadPairImm .sp w s

/-- `LD HL,SP+r8`, $F8 (R172). -/
def execLdHlSpR8 (e : Byte) (s : State) : Result := loadHlSpOffset e s

/-- `LD SP,HL`, $F9 (R173). -/
def execLdSpHl (s : State) : Result := loadSpHl s

end Sys2Proof.Machine
end

