-- ==== Sys2Proof/Machine/Load8.lean ====
section
/-! DEFINITION. 8-bit loads (spec/41_load_8bit.md): no flag is written. `PC` has passed the whole instruction when a meaning
starts (R25, R103); the machine cycles are added by the step (R340). -/

namespace Sys2Proof.Machine

/-- `r8[y] <- r8[z]` (R140). -/
def loadRegReg (dst src : Reg8) (s : State) : Result := .next (s.setReg dst (s.reg src))

/-- A register from the byte at an address (R141, R149, R150, R154, R156, R158). -/
def loadRegFrom (dst : Reg8) (addr : Word) (s : State) : Result := .next (s.setReg dst (s.readByte addr))

/-- A byte to an address, with the side effect of its region (R142, R144 to R146, R153, R155, R157). -/
def storeAt (addr : Word) (v : Byte) (s : State) : Result := .next (s.writeByte addr v)

/-- `r8[y] <- d8` (R143). -/
def loadRegImm (dst : Reg8) (n : Byte) (s : State) : Result := .next (s.setReg dst n)

/-- `MemWrite(HL, 1, A)`, then `HL <- HL + delta` (R147, R148, G7). -/
def storeAThenMoveHl (delta : Word) (s : State) : Result :=
  let t := s.writeByte s.hl s.a
  .next (t.setHl (t.hl + delta))

/-- `A <- MemRead(HL, 1)`, then `HL <- HL + delta` (R151, R152, G7). -/
def loadAThenMoveHl (delta : Word) (s : State) : Result :=
  let t := s.setReg .a (s.readByte s.hl)
  .next (t.setHl (t.hl + delta))

/-- `LD (BC),A`, $02 (R145). -/
def execLdAtBcA (s : State) : Result := storeAt s.bc s.a s

/-- `LD B,d8`, $06 (R143). -/
def execLdBD8 (n : Byte) (s : State) : Result := loadRegImm .b n s

/-- `LD A,(BC)`, $0A (R149). -/
def execLdAAtBc (s : State) : Result := loadRegFrom .a s.bc s

/-- `LD C,d8`, $0E (R143). -/
def execLdCD8 (n : Byte) (s : State) : Result := loadRegImm .c n s

/-- `LD (DE),A`, $12 (R146). -/
def execLdAtDeA (s : State) : Result := storeAt s.de s.a s

/-- `LD D,d8`, $16 (R143). -/
def execLdDD8 (n : Byte) (s : State) : Result := loadRegImm .d n s

/-- `LD A,(DE)`, $1A (R150). -/
def execLdAAtDe (s : State) : Result := loadRegFrom .a s.de s

/-- `LD E,d8`, $1E (R143). -/
def execLdED8 (n : Byte) (s : State) : Result := loadRegImm .e n s

/-- `LD (HL+),A`, $22 (R147). -/
def execLdAtHlIncA (s : State) : Result := storeAThenMoveHl 1 s

/-- `LD H,d8`, $26 (R143). -/
def execLdHD8 (n : Byte) (s : State) : Result := loadRegImm .h n s

/-- `LD A,(HL+)`, $2A (R151). -/
def execLdAAtHlInc (s : State) : Result := loadAThenMoveHl 1 s

/-- `LD L,d8`, $2E (R143). -/
def execLdLD8 (n : Byte) (s : State) : Result := loadRegImm .l n s

/-- `LD (HL-),A`, $32 (R148). -/
def execLdAtHlDecA (s : State) : Result := storeAThenMoveHl (-1) s

/-- `LD (HL),d8`, $36 (R144). -/
def execLdAtHlD8 (n : Byte) (s : State) : Result := storeAt s.hl n s

/-- `LD A,(HL-)`, $3A (R152). -/
def execLdAAtHlDec (s : State) : Result := loadAThenMoveHl (-1) s

/-- `LD A,d8`, $3E (R143). -/
def execLdAD8 (n : Byte) (s : State) : Result := loadRegImm .a n s

/-- `LD B,B`, $40 (R140). -/
def execLdBB (s : State) : Result := loadRegReg .b .b s

/-- `LD B,C`, $41 (R140). -/
def execLdBC (s : State) : Result := loadRegReg .b .c s

/-- `LD B,D`, $42 (R140). -/
def execLdBD (s : State) : Result := loadRegReg .b .d s

/-- `LD B,E`, $43 (R140). -/
def execLdBE (s : State) : Result := loadRegReg .b .e s

/-- `LD B,H`, $44 (R140). -/
def execLdBH (s : State) : Result := loadRegReg .b .h s

/-- `LD B,L`, $45 (R140). -/
def execLdBL (s : State) : Result := loadRegReg .b .l s

/-- `LD B,(HL)`, $46 (R141). -/
def execLdBAtHl (s : State) : Result := loadRegFrom .b s.hl s

/-- `LD B,A`, $47 (R140). -/
def execLdBA (s : State) : Result := loadRegReg .b .a s

/-- `LD C,B`, $48 (R140). -/
def execLdCB (s : State) : Result := loadRegReg .c .b s

/-- `LD C,C`, $49 (R140). -/
def execLdCC (s : State) : Result := loadRegReg .c .c s

/-- `LD C,D`, $4A (R140). -/
def execLdCD (s : State) : Result := loadRegReg .c .d s

/-- `LD C,E`, $4B (R140). -/
def execLdCE (s : State) : Result := loadRegReg .c .e s

/-- `LD C,H`, $4C (R140). -/
def execLdCH (s : State) : Result := loadRegReg .c .h s

/-- `LD C,L`, $4D (R140). -/
def execLdCL (s : State) : Result := loadRegReg .c .l s

/-- `LD C,(HL)`, $4E (R141). -/
def execLdCAtHl (s : State) : Result := loadRegFrom .c s.hl s

/-- `LD C,A`, $4F (R140). -/
def execLdCA (s : State) : Result := loadRegReg .c .a s

/-- `LD D,B`, $50 (R140). -/
def execLdDB (s : State) : Result := loadRegReg .d .b s

/-- `LD D,C`, $51 (R140). -/
def execLdDC (s : State) : Result := loadRegReg .d .c s

/-- `LD D,D`, $52 (R140). -/
def execLdDD (s : State) : Result := loadRegReg .d .d s

/-- `LD D,E`, $53 (R140). -/
def execLdDE (s : State) : Result := loadRegReg .d .e s

/-- `LD D,H`, $54 (R140). -/
def execLdDH (s : State) : Result := loadRegReg .d .h s

/-- `LD D,L`, $55 (R140). -/
def execLdDL (s : State) : Result := loadRegReg .d .l s

/-- `LD D,(HL)`, $56 (R141). -/
def execLdDAtHl (s : State) : Result := loadRegFrom .d s.hl s

/-- `LD D,A`, $57 (R140). -/
def execLdDA (s : State) : Result := loadRegReg .d .a s

/-- `LD E,B`, $58 (R140). -/
def execLdEB (s : State) : Result := loadRegReg .e .b s

/-- `LD E,C`, $59 (R140). -/
def execLdEC (s : State) : Result := loadRegReg .e .c s

/-- `LD E,D`, $5A (R140). -/
def execLdED (s : State) : Result := loadRegReg .e .d s

/-- `LD E,E`, $5B (R140). -/
def execLdEE (s : State) : Result := loadRegReg .e .e s

/-- `LD E,H`, $5C (R140). -/
def execLdEH (s : State) : Result := loadRegReg .e .h s

/-- `LD E,L`, $5D (R140). -/
def execLdEL (s : State) : Result := loadRegReg .e .l s

/-- `LD E,(HL)`, $5E (R141). -/
def execLdEAtHl (s : State) : Result := loadRegFrom .e s.hl s

/-- `LD E,A`, $5F (R140). -/
def execLdEA (s : State) : Result := loadRegReg .e .a s

/-- `LD H,B`, $60 (R140). -/
def execLdHB (s : State) : Result := loadRegReg .h .b s

/-- `LD H,C`, $61 (R140). -/
def execLdHC (s : State) : Result := loadRegReg .h .c s

/-- `LD H,D`, $62 (R140). -/
def execLdHD (s : State) : Result := loadRegReg .h .d s

/-- `LD H,E`, $63 (R140). -/
def execLdHE (s : State) : Result := loadRegReg .h .e s

/-- `LD H,H`, $64 (R140). -/
def execLdHH (s : State) : Result := loadRegReg .h .h s

/-- `LD H,L`, $65 (R140). -/
def execLdHL (s : State) : Result := loadRegReg .h .l s

/-- `LD H,(HL)`, $66 (R141). -/
def execLdHAtHl (s : State) : Result := loadRegFrom .h s.hl s

/-- `LD H,A`, $67 (R140). -/
def execLdHA (s : State) : Result := loadRegReg .h .a s

/-- `LD L,B`, $68 (R140). -/
def execLdLB (s : State) : Result := loadRegReg .l .b s

/-- `LD L,C`, $69 (R140). -/
def execLdLC (s : State) : Result := loadRegReg .l .c s

/-- `LD L,D`, $6A (R140). -/
def execLdLD (s : State) : Result := loadRegReg .l .d s

/-- `LD L,E`, $6B (R140). -/
def execLdLE (s : State) : Result := loadRegReg .l .e s

/-- `LD L,H`, $6C (R140). -/
def execLdLH (s : State) : Result := loadRegReg .l .h s

/-- `LD L,L`, $6D (R140). -/
def execLdLL (s : State) : Result := loadRegReg .l .l s

/-- `LD L,(HL)`, $6E (R141). -/
def execLdLAtHl (s : State) : Result := loadRegFrom .l s.hl s

/-- `LD L,A`, $6F (R140). -/
def execLdLA (s : State) : Result := loadRegReg .l .a s

/-- `LD (HL),B`, $70 (R142). -/
def execLdAtHlB (s : State) : Result := storeAt s.hl s.b s

/-- `LD (HL),C`, $71 (R142). -/
def execLdAtHlC (s : State) : Result := storeAt s.hl s.c s

/-- `LD (HL),D`, $72 (R142). -/
def execLdAtHlD (s : State) : Result := storeAt s.hl s.d s

/-- `LD (HL),E`, $73 (R142). -/
def execLdAtHlE (s : State) : Result := storeAt s.hl s.e s

/-- `LD (HL),H`, $74 (R142). -/
def execLdAtHlH (s : State) : Result := storeAt s.hl s.h s

/-- `LD (HL),L`, $75 (R142). -/
def execLdAtHlL (s : State) : Result := storeAt s.hl s.l s

/-- `LD (HL),A`, $77 (R142). -/
def execLdAtHlA (s : State) : Result := storeAt s.hl s.a s

/-- `LD A,B`, $78 (R140). -/
def execLdAB (s : State) : Result := loadRegReg .a .b s

/-- `LD A,C`, $79 (R140). -/
def execLdAC (s : State) : Result := loadRegReg .a .c s

/-- `LD A,D`, $7A (R140). -/
def execLdAD (s : State) : Result := loadRegReg .a .d s

/-- `LD A,E`, $7B (R140). -/
def execLdAE (s : State) : Result := loadRegReg .a .e s

/-- `LD A,H`, $7C (R140). -/
def execLdAH (s : State) : Result := loadRegReg .a .h s

/-- `LD A,L`, $7D (R140). -/
def execLdAL (s : State) : Result := loadRegReg .a .l s

/-- `LD A,(HL)`, $7E (R141). -/
def execLdAAtHl (s : State) : Result := loadRegFrom .a s.hl s

/-- `LD A,A`, $7F (R140). -/
def execLdAA (s : State) : Result := loadRegReg .a .a s

/-- `LDH (a8),A`, $E0 (R155). -/
def execLdhAtA8A (n : Byte) (s : State) : Result := storeAt (highPage n) s.a s

/-- `LD (C),A`, $E2 (R157). -/
def execLdAtCA (s : State) : Result := storeAt (highPage s.c) s.a s

/-- `LD (a16),A`, $EA (R153). -/
def execLdAtA16A (w : Word) (s : State) : Result := storeAt w s.a s

/-- `LDH A,(a8)`, $F0 (R156). -/
def execLdhAAtA8 (n : Byte) (s : State) : Result := loadRegFrom .a (highPage n) s

/-- `LD A,(C)`, $F2 (R158). -/
def execLdAAtC (s : State) : Result := loadRegFrom .a (highPage s.c) s

/-- `LD A,(a16)`, $FA (R154). -/
def execLdAAtA16 (w : Word) (s : State) : Result := loadRegFrom .a w s

end Sys2Proof.Machine
end

