-- ==== Sys2Proof/Machine/RotateA.lean ====
section
/-! DEFINITION. Accumulator rotates, DAA, CPL, SCF, CCF (spec/45_rotate_a_and_flag_ops.md). `PC` has passed the whole instruction when a meaning
starts (R25, R103); the machine cycles are added by the step (R340). -/

namespace Sys2Proof.Machine

/-- A rotate of the accumulator: `Z`, `N`, `H` 0, `C` the bit rotated out (R230 to R233). -/
def rotateA (op : RotOp) (s : State) : Result := .next (s.putA (rotAOut op s.a s.flagC))

/-- `DAA` (R234). -/
def decimalAdjust (s : State) : Result := .next (s.putA (daaOut s.a s.flagN s.flagH s.flagC))

/-- `CPL`: `A <- ~A`, `N` and `H` 1, `Z` and `C` kept (R235). -/
def complementA (s : State) : Result :=
  .next (State.setFlags { s with a := s.a ^^^ 0xFF } s.flagZ true true s.flagC)

/-- `SCF` and `CCF`: `C` written, `N` and `H` 0, `Z` kept (R236, R237). -/
def putCarry (c : Bool) (s : State) : Result := .next (s.setFlags s.flagZ false false c)

/-- `RLCA`, $07 (R230). -/
def execRlca (s : State) : Result := rotateA .rlc s

/-- `RRCA`, $0F (R231). -/
def execRrca (s : State) : Result := rotateA .rrc s

/-- `RLA`, $17 (R232). -/
def execRla (s : State) : Result := rotateA .rl s

/-- `RRA`, $1F (R233). -/
def execRra (s : State) : Result := rotateA .rr s

/-- `DAA`, $27 (R234). -/
def execDaa (s : State) : Result := decimalAdjust s

/-- `CPL`, $2F (R235). -/
def execCpl (s : State) : Result := complementA s

/-- `SCF`, $37 (R236). -/
def execScf (s : State) : Result := putCarry true s

/-- `CCF`, $3F (R237). -/
def execCcf (s : State) : Result := putCarry (!s.flagC) s

end Sys2Proof.Machine
end

