-- ==== Sys2Proof/Machine/Stack.lean ====
section
/-! DEFINITION. PUSH and POP (spec/47_stack.md). `PC` has passed the whole instruction when a meaning
starts (R25, R103); the machine cycles are added by the step (R340). -/

namespace Sys2Proof.Machine

/-- `Push16(rp2[p])` (R280, R281). -/
def pushPair (p : StackPair) (s : State) : Result := .next (s.push16 (s.stackPair p))

/-- `rp2[p] <- Pop16()`, `AF` through the mask (R282, R283). -/
def popPair (p : StackPair) (s : State) : Result := .next (s.popped.setStackPair p s.popValue)

/-- `POP BC`, $C1 (R282). -/
def execPopBc (s : State) : Result := popPair .bc s

/-- `PUSH BC`, $C5 (R280). -/
def execPushBc (s : State) : Result := pushPair .bc s

/-- `POP DE`, $D1 (R282). -/
def execPopDe (s : State) : Result := popPair .de s

/-- `PUSH DE`, $D5 (R280). -/
def execPushDe (s : State) : Result := pushPair .de s

/-- `POP HL`, $E1 (R282). -/
def execPopHl (s : State) : Result := popPair .hl s

/-- `PUSH HL`, $E5 (R280). -/
def execPushHl (s : State) : Result := pushPair .hl s

/-- `POP AF`, $F1 (R283). -/
def execPopAf (s : State) : Result := popPair .af s

/-- `PUSH AF`, $F5 (R281). -/
def execPushAf (s : State) : Result := pushPair .af s

end Sys2Proof.Machine
end

