-- ==== Sys2Proof/Machine/Timing.lean ====
section
/-! DEFINITION. Machine cycles (spec/70_reset_and_hazards.md section 4): the counts the document fixes, and what selects the
count of an instruction in the parameter `CYCLES` (R8). -/

namespace Sys2Proof.Machine

/-- The condition of a conditional jump, call or return, from the fields of its opcode (R107, R110). -/
def condOfOpcode (op : Byte) : Option Cond :=
  let y := fieldY op
  match fieldX op, fieldZ op with
  | 0, 0 => if 4 ≤ y then some (condAt (y - 4)) else none
  | 3, 0 => if y < 4 then some (condAt y) else none
  | 3, 2 => if y < 4 then some (condAt y) else none
  | 3, 4 => if y < 4 then some (condAt y) else none
  | _, _ => none

/-- Whether the instruction with the opcode `op` is a conditional branch that is taken from this state (R250). -/
def branchTaken (op : Byte) (s : State) : Bool :=
  match condOfOpcode op with
  | some cc => s.condHolds cc
  | none => false

/-- The cycles of an interrupt dispatch: "5 machine cycles" (R390). -/
def dispatchCycles : Nat := 5

/-- The cycles of an idle halted step: "1 machine cycle" (R390). -/
def idleCycles : Nat := 1

/-- `cycles += n`, modulo `2^64` (R12, R31). -/
def State.addCycles (s : State) (n : Nat) : State := { s with cycles := s.cycles + BitVec.ofNat 64 n }

/-- The cycles of the instruction whose first two bytes are `op` and `op2`, from this state: 0 for an undefined opcode,
which returns before `CYCLES` is looked at, else `CYCLES(op, op2, taken)` (R340 step 4, R8). -/
def State.instrCycles (s : State) (op op2 : Byte) : Nat :=
  if op ∈ undefinedOpcodes then 0 else s.cycleTable.cycles op op2 (branchTaken op s)

end Sys2Proof.Machine
end

