-- ==== Sys2Proof/Machine/Protocol.lean ====
section
/-! DEFINITION. The protocol of `Step()` (spec/60_exceptions.md section 1), and placing an instruction where the next
step fetches it. -/

namespace Sys2Proof.Machine

/-- `CommitEI()`, step 1 (R341): an `EI` of the step just before waits one more step, an older one enables now. -/
def State.commitEI (s : State) : State :=
  if s.imePending then
    if s.eiJust then { s with eiJust := false } else { s with ime := true, imePending := false }
  else s

/-- The state with the HALT latch cleared (R30). -/
def State.awake (s : State) : State := { s with halted := false }

/-- The state at the end of step 2: an enabled pending source wakes the core, whatever `IME` is (R340, R343). -/
def State.wake (s : State) : State := if s.pendingSource.isSome then s.awake else s

/-- The opcode byte at `PC`. -/
def State.opcode (s : State) : Byte := s.readByte s.pc

/-- The byte after the opcode. -/
def State.opcode2 (s : State) : Byte := s.readByte (s.pc + 1)

/-- The instruction at `PC`, its bytes read through the MMU (R84, R103). All three bytes an instruction may have are
looked at; a read changes nothing (R79), so looking at a byte the instruction does not have is not visible. -/
def State.fetched (s : State) : Instr := instrOf s.opcode s.opcode2 (s.readByte (s.pc + 2))

/-- The state with `PC` past the instruction at `PC` (R25). -/
def State.pastFetch (s : State) : State := { s with pc := s.pc + BitVec.ofNat 16 (opLength s.opcode) }

/-- The cycles of the instruction at `PC` (R340 step 4, R8). -/
def State.fetchedCycles (s : State) : Nat := s.instrCycles s.opcode s.opcode2

/-- Adding the cycles to the state an instruction answers. -/
def addCyclesTo (n : Nat) (r : Result) : Result :=
  match r with
  | .next t => .next (t.addCycles n)
  | .fault why => .fault why
  | .refused why => .refused why

/-- Step 4: fetch, execute, account (R340). -/
def State.runInstruction (s : State) : Result := addCyclesTo s.fetchedCycles (exec s.fetched s.pastFetch)

/-- `Step()` (R340): nothing while the fault is latched; else commit `EI`, wake, then one of dispatch, idle cycle,
instruction. -/
def stepProtocol (s : State) : Result :=
  match s.faultLatch with
  | some _ => .next s
  | none =>
    let t := s.commitEI.wake
    match s.commitEI.pendingSource, t.ime with
    | some src, true => .next ((t.takeInterrupt src).addCycles dispatchCycles)
    | _, _ => if t.halted then .next (t.addCycles idleCycles) else t.runInstruction

/-- What `Step()` returns: the machine cycles of the step from this state (R340). -/
def stepReturns (s : State) : Nat :=
  match s.faultLatch with
  | some _ => 0
  | none =>
    let t := s.commitEI.wake
    match s.commitEI.pendingSource, t.ime with
    | some _, true => dispatchCycles
    | _, _ => if t.halted then idleCycles else t.fetchedCycles

/-! Placing an instruction (no part of the hardware: it stands for loading a program, log 26). -/

/-- The state with a byte of the cartridge image replaced, the image lengthened where it has to be. -/
def State.pokeRom (s : State) (off : Nat) (v : Byte) : State :=
  { s with rom := Memory.write (unlisted (.rom off)) s.rom off v, romLen := max s.romLen (off + 1) }

/-- The state in which a read of `addr` gives `v`: the byte is put where the address is backed. -/
def State.poke (s : State) (addr : Word) (v : Byte) : State :=
  match s.locate addr with
  | some (.rom off) => s.pokeRom off v
  | some p => s.writePlace p v
  | none => s

/-- What has to hold for the three bytes at `PC` to be writable: cartridge RAM enabled, and `PC` away from the
prohibited region; otherwise `PC` is taken to the entry point `$0100`. -/
def State.makeFetchable (s : State) : State :=
  let on := { s with ramEnable := s.ramEnable || regionOf s.pc == .cartRam || regionOf (s.pc + 2) == .cartRam }
  if regionOf s.pc == .prohibited || regionOf (s.pc + 2) == .prohibited then { on with pc := 0x0100 } else on

/-- What has to hold for a step to fetch: no fault latched, not halted, and no dispatch due. -/
def State.makeReady (s : State) : State :=
  let live := { s with faultLatch := none, halted := false }
  if live.commitEI.pendingSource.isSome && live.commitEI.ime then
    { live with ime := false, imePending := false, eiJust := false }
  else live

/-- The bytes put at an address and the addresses after it. -/
def State.pokeBytes (s : State) (addr : Word) (bytes : List Byte) : State :=
  match bytes with
  | [] => s
  | v :: rest => (s.poke addr v).pokeBytes (addr + 1) rest

/-- The state whose next step fetches and runs the instruction given. -/
def State.placeInstruction (s : State) (bytes : List Byte) : State :=
  let t := s.makeFetchable
  (t.pokeBytes t.pc bytes).makeReady

end Sys2Proof.Machine
end

