-- ==== Sys2Proof/Machine/Step.lean ====
section
/-! DEFINITION. One step of the machine, and placing an instruction where it fetches. -/

namespace Sys2Proof.Machine

/-- `Step()` (R340). -/
def step (s : State) : Host.Outcome State Fault Refusal := stepProtocol s

/-- The state with an instruction, given as a number (see `tableBytes`), stored where `step` fetches next: in the
cartridge image after reset. It stands for loading a program from outside the machine (log 26). -/
def State.withFetchWord (s : State) (nbits w : Nat) : State := s.placeInstruction (tableBytes nbits w)

end Sys2Proof.Machine
end

