-- ==== Sys2Proof/Machine/Environment.lean ====
section
/-! DEFINITION. What the host and the environment do to the machine, always between two steps (R7, D19): building it
from a cartridge (`LoadROM`, R86), resetting it (R380), raising an interrupt (R346), reading through the MMU and
writing I/O registers. None of it is an instruction, and `step` performs none of it (log 19). -/

namespace Sys2Proof.Machine

/-- Reset: every piece of state at its reset value; it "does not clear ROM", and keeps
every parameter (R380, R8). -/
def State.resetMachine (s : State) : State :=
  { State.reset with rom := s.rom, romLen := s.romLen, romBanks := s.romBanks, cycleTable := s.cycleTable }

/-- The machine built from the argument `CYCLES` and a cartridge, before any check (R8). -/
def loaded (cyc : CycleTable) (c : Cartridge) : State :=
  { State.reset with
    rom := Memory.ofBytes (unlisted (.rom 0)) 0 c.image
    romLen := c.image.length
    romBanks := c.banks
    cycleTable := cyc }

/-- `LoadROM` (R86): the machine at reset with the image in place; an unsupported type is refused ("InvalidMBC", R5,
D23), and so is a bank count that is no power of two or below 2 (R8). Every `CYCLES` is accepted (D8). -/
def loadROM (cyc : CycleTable) (c : Cartridge) : Result :=
  if !c.typeOk then .refused .invalidMBC
  else if !c.banksOk then .refused .invalidRomBanks
  else .next (loaded cyc c)

/-- The least power of two at least `n`, from `p` on, in at most `fuel` doublings. -/
def powerAtLeast (fuel p n : Nat) : Nat :=
  match fuel with
  | 0 => p
  | k + 1 => if n ≤ p then p else powerAtLeast k (2 * p) n

/-- The recommended `ROM_BANKS` of an image (D11, G10): `2^(ROM[$0148] + 1)` for a header byte 0 to 6, else the least
power of two at least `max(2, ceil(ROM_LEN / $4000))`. PRESUMED, log 3. -/
def recommendedBanks (image : List Byte) : Nat :=
  match image[0x0148]? with
  | some n => if n.toNat ≤ 6 then 2 ^ (n.toNat + 1) else powerAtLeast image.length 2 ((image.length + 0x3FFF) / 0x4000)
  | none => powerAtLeast image.length 2 ((image.length + 0x3FFF) / 0x4000)

/-- What the environment may do between two steps (R7, D19). -/
inductive EnvAction where
  /-- `Raise(source)` (R346). -/
  | raise (src : Source)
  /-- A read of any address through the MMU: it changes nothing (R79). -/
  | read (addr : Word)
  /-- A write through the MMU; only `$FF00-$FF7F` is the environment's to write. -/
  | write (addr : Word) (v : Byte)
  /-- Reset. -/
  | reset
deriving DecidableEq, Repr

/-- The state after an action of the environment. -/
def envApply (act : EnvAction) (s : State) : Result :=
  match act with
  | .raise src => .next (s.raise src)
  | .read _ => .next s
  | .write addr v => if regionOf addr = .io then .next (s.writeByte addr v) else .refused .outsideIoWindow
  | .reset => .next s.resetMachine

end Sys2Proof.Machine
end

