-- ==== Sys2Proof/Safety.lean ====
section
/-! DEFINITION. The terms claims are made in: the invariant of the machine, what a store can reach, what an access leaves
alone, and the histories of a machine. A safe run is one in which every state meets the invariant and no fault is
latched (R33, R352: "a claim about a program must take `fault = none` as a premise or prove it"). -/

namespace Sys2Proof.Machine

/-- Every array is in the canonical form, with the sizes of rules R36 to R38 and, for the image, `ROM_LEN`. -/
def State.arraysWf (s : State) : Bool :=
  Memory.wf Config.ramUnlisted 0x2000 s.vram
    && Memory.wf Config.ramUnlisted Config.cartRamSize s.cartRam
    && Memory.wf Config.ramUnlisted 0x2000 s.wram
    && Memory.wf Config.ramUnlisted 0xA0 s.oam
    && Memory.wf Config.ramUnlisted 0x80 s.io
    && Memory.wf Config.ramUnlisted 0x7F s.hram
    && Memory.wf Config.romUnlisted s.romLen s.rom

/-- The invariant of the machine. -/
structure State.Inv (s : State) : Prop where
  /-- The arrays are canonical. -/
  arrays : s.arraysWf = true
  /-- "Low four bits of `F` are always zero across every observable state" (R23). -/
  flagsLow : s.f &&& 0x0F = 0
  /-- `rom_bank_low5 ≠ 0` in every state (R42). -/
  bankLow : s.romBankLow5 ≠ 0
  /-- `ei_just = 0` whenever `ime_pending = 0` (R29). -/
  eiLatch : s.imePending = false → s.eiJust = false
  /-- `ROM_BANKS` is a power of two, at least 2 (R8). -/
  banks : ∃ k, s.romBanks = 2 ^ (k + 1)
  /-- A latched fault names the address `PC` is locked at and an undefined opcode (R352). -/
  latch : ∀ p op, s.faultLatch = some (.illegalInstruction p op) → s.pc = p ∧ op ∈ undefinedOpcodes

/-- Every address reads the same byte in both states. -/
def SameBytes (s t : State) : Prop := ∀ addr, t.readByte addr = s.readByte addr

/-- The first state with the memory of the second: its arrays, `IE` and the MBC1 latches. `t = s.withMemoryOf t` says
that `t` differs from `s` in memory only. -/
def State.withMemoryOf (s t : State) : State :=
  { s with
    vram := t.vram, cartRam := t.cartRam, wram := t.wram, oam := t.oam, io := t.io, hram := t.hram, ie := t.ie
    ramEnable := t.ramEnable, romBankLow5 := t.romBankLow5, romBankHigh2 := t.romBankHigh2, bankingMode := t.bankingMode }

/-- Whether a store to `a` can change what a read of `b` gives: a store into ROM space moves the windows its latch
maps (R72, R75, R76), a store to `$FF46` also overwrites OAM (R78), a store that nothing backs changes nothing, and
any other store changes the addresses that name the same cell (R74). -/
def storeAffects (s : State) (a b : Word) : Bool :=
  match regionOf a with
  | .rom0 => if a.toNat ≤ 0x1FFF then regionOf b == .cartRam else regionOf b == .romX
  | .romX => if a.toNat ≤ 0x5FFF then regionOf b == .romX || regionOf b == .cartRam else regionOf b == .cartRam
  | .vram | .cartRam | .wram0 | .wram1 | .echo | .oam | .prohibited | .io | .hram | .ie =>
    ((s.locate a).isSome && s.locate b == s.locate a) || (a == dmaAddr && regionOf b == .oam)

/-- What a store to `addr` cannot reach reads the same in both states. -/
def ReadsAsBefore (s t : State) (addr : Word) : Prop :=
  ∀ b, storeAffects s addr b = false → t.readByte b = s.readByte b

/-- A byte stored at the address is held there and changes nothing else: not ROM space, not the prohibited region, not
the DMA register, and the cartridge RAM window only while it is enabled (R70, R71). -/
def Holds (s : State) (addr : Word) : Prop :=
  regionOf addr ≠ .rom0 ∧ regionOf addr ≠ .romX ∧ addr ≠ dmaAddr ∧ (s.locate addr).isSome = true

/-- The four flags of a state, and that bits 3..0 of its flag byte are 0 (R22, R23). -/
def FlagsAre (t : State) (z n h c : Bool) : Prop :=
  t.flagZ = z ∧ t.flagN = n ∧ t.flagH = h ∧ t.flagC = c ∧ t.f &&& 0x0F = 0

/-- The two-digit decimal number as a BCD byte. -/
def bcd (x : Nat) : Byte := BitVec.ofNat 8 (x / 10 * 16 + x % 10)

/-- The states a machine can come to: built from any `CYCLES` and any cartridge, then steps and actions of the environment (R6, R7). -/
inductive Reachable : State → Prop where
  | load (cyc : CycleTable) (c : Cartridge) (t : State) (h : loadROM cyc c = .next t) : Reachable t
  | step (s t : State) (hs : Reachable s) (h : Machine.step s = .next t) : Reachable t
  | env (act : EnvAction) (s t : State) (hs : Reachable s) (h : envApply act s = .next t) : Reachable t

/-- The state an outcome answers, where it answers one. -/
def nextState? (r : Result) : Option State :=
  match r with
  | .next s => some s
  | .fault _ => none
  | .refused _ => none

end Sys2Proof.Machine
end

