-- ==== Sys2Proof/Certificates/Slice0/Obligations.lean ====
section
/-! DEFINITION. The statements for the provers. Each docstring names the rule it formalises; a clause that rests on a
decision of the spec (`D<n>`) or on its general knowledge (`G<n>`) is named there with its log entry. -/

open Sys2Proof Sys2Proof.Machine

/-! ## Encoding -/

/-- Decoding the bytes of any instruction, whatever follows them, gives the instruction back and leaves what follows:
no operand bit is dropped. From R100 to R112; the byte values are G1 to G5 (log 22). -/
def Obligations.DecodeOfEncodeIsIdentity : Prop :=
  ∀ (i : Instr) (rest : List Byte), i.wf = true → decode (encode i ++ rest) = .ok (i, rest)

/-- Every instruction has one encoding: bytes that decode to `i` begin with the bytes of `i`. From R100 to R112. -/
def Obligations.EncodeOfDecodeIsIdentity : Prop :=
  ∀ (bytes : List Byte) (i : Instr) (rest : List Byte), decode bytes = .ok (i, rest) → bytes = encode i ++ rest

/-- The decoder is total over byte values: three bytes always hold an instruction, of 1, 2 or 3 bytes (R100, R103). -/
def Obligations.ThreeBytesAlwaysDecode : Prop :=
  ∀ (op b1 b2 : Byte) (more : List Byte), ∃ (i : Instr) (rest : List Byte),
    decode (op :: b1 :: b2 :: more) = .ok (i, rest)
      ∧ 1 ≤ (encode i).length ∧ (encode i).length ≤ 3
      ∧ op :: b1 :: b2 :: more = encode i ++ rest

/-- "Eleven base opcodes are undefined", and no other first byte decodes to one of their rows (R112, C1); the same
values are ordinary operations after the prefix. -/
def Obligations.UndefinedOpcodesAreEleven : Prop :=
  (∀ (op : Byte) (rest : List Byte),
    (∃ k : IllegalOp, decode (op :: rest) = .ok (.illegal k, rest)) ↔ op ∈ undefinedOpcodes)
  ∧ (∀ (op2 : Byte) (rest : List Byte) (k : IllegalOp), decode (0xCB :: op2 :: rest) ≠ .ok (.illegal k, rest))
  ∧ undefinedOpcodes.length = 11

/-- The byte values the document itself gives (R117), and the CB example of R103: a few words decode to the
instructions they stand for. -/
def Obligations.AnchorWordsDecode : Prop :=
  decode [0x00] = .ok (.nop, [])
  ∧ decode [0x76] = .ok (.halt, [])
  ∧ decode [0x10, 0x00] = .ok (.stop 0x00, [])
  ∧ decode [0x3E, 0x42] = .ok (.ldAD8 0x42, [])
  ∧ decode [0xC6, 0x80] = .ok (.addAD8 0x80, [])
  ∧ decode [0x3C] = .ok (.incA, [])
  ∧ decode [0x20, 0x05] = .ok (.jrNzR8 0x05, [])
  ∧ decode [0xCD, 0x20, 0x01] = .ok (.callA16 0x0120, [])
  ∧ decode [0xC9] = .ok (.ret, [])
  ∧ decode [0x78] = .ok (.ldAB, [])
  ∧ decode [0xCB, 0xCB] = .ok (.set1E, [])

/-! ## Reset, loading and the environment -/

/-- Reset puts every piece of state at its value of the table of R380 and keeps the parameters. The values of `eiJust`,
`cycles`, `faultLatch`, the I/O cells other than `IF` and the cartridge RAM are the spec's decisions D1, D9, D7, D14
(logs 7, 24, 6, 15). -/
def Obligations.ResetPutsEveryPieceAtItsValue : Prop :=
  ∀ s : State, ∃ t, envApply .reset s = .next t
    ∧ (∀ r : Reg8, t.reg r = 0x00) ∧ t.f = 0x00 ∧ t.sp = 0xFFFE ∧ t.pc = 0x0100
    ∧ t.ime = false ∧ t.imePending = false ∧ t.eiJust = false ∧ t.halted = false
    ∧ t.cycles = 0 ∧ t.faultLatch = none
    ∧ (∀ k, t.readPlace (.vram k) = 0x00) ∧ (∀ k, t.readPlace (.wram k) = 0x00)
    ∧ (∀ k, t.readPlace (.oam k) = 0x00) ∧ (∀ k, t.readPlace (.hram k) = 0x00)
    ∧ (∀ k, t.readPlace (.io k) = 0x00) ∧ (∀ k, t.readPlace (.cartRam k) = 0x00) ∧ t.ie = 0x00
    ∧ t.ramEnable = false ∧ t.romBankLow5 = 1 ∧ t.romBankHigh2 = 0 ∧ t.bankingMode = false
    ∧ t.rom = s.rom ∧ t.romLen = s.romLen ∧ t.romBanks = s.romBanks ∧ t.cycleTable = s.cycleTable

/-- The state after reset meets the invariant. Its empty cartridge is the model's choice (log 1). -/
def Obligations.ResetMeetsTheInvariant : Prop := State.reset.Inv

/-- `LoadROM` refuses an image of an unsupported type ("InvalidMBC") and otherwise, for a `ROM_BANKS` that is a power
of two at least 2 and any `CYCLES`, builds the reset machine with the image and those arguments in place: `ROM[off]`
within the image, `$FF` beyond it (R5, R8, R65, R86, D23; log 27). -/
def Obligations.LoadBuildsTheMachineOrRefuses : Prop :=
  ∀ (cyc : CycleTable) (c : Cartridge),
    ((∀ t : Byte, c.image[0x0147]? = some t → 3 < t.toNat) → loadROM cyc c = .refused .invalidMBC)
    ∧ (∀ t : Byte, c.image[0x0147]? = some t → t.toNat ≤ 3 → (∃ k, c.banks = 2 ^ (k + 1)) →
        ∃ u, loadROM cyc c = .next u
          ∧ u = { State.reset with
              rom := u.rom, romLen := c.image.length, romBanks := c.banks, cycleTable := cyc }
          ∧ ∀ off, u.romByte off = (c.image[off]?).getD 0xFF)

/-- `Raise(source)` "sets the corresponding bit in `IF`" and changes nothing else; raising a source already pending
changes nothing (R346). -/
def Obligations.RaiseSetsOneRequestBit : Prop :=
  ∀ (s : State) (src : Source), ∃ t, envApply (.raise src) s = .next t
    ∧ t.readByte 0xFF0F = s.readByte 0xFF0F ||| ((1 : Byte) <<< src.index)
    ∧ t = { s with io := t.io }
    ∧ (∀ b : Word, b ≠ 0xFF0F → t.readByte b = s.readByte b)
    ∧ (s.Inv → (s.readByte 0xFF0F).getLsbD src.index = true → t = s)

/-- Whatever the environment does to a state that meets the invariant, the invariant holds after it (R7, D19; log 19). -/
def Obligations.EnvironmentKeepsTheInvariant : Prop :=
  ∀ (act : EnvAction) (s t : State), s.Inv → envApply act s = .next t → t.Inv

/-! ## The whole machine -/

/-- The invariant is kept by every step: the arrays stay canonical, bits 3..0 of `F` stay 0 (R23), the ROM bank latch
is never 0 (R42), `ei_just` is 0 whenever `ime_pending` is 0 (R29), a latched fault locks `PC` (R352). -/
def Obligations.StepKeepsTheInvariant : Prop :=
  ∀ s t : State, s.Inv → step s = .next t → t.Inv

/-- Every state a machine can come to, from a loaded cartridge through steps and actions of the environment, meets the
invariant. Which actions the environment has is the spec's decision D19 (log 19). -/
def Obligations.ReachableStatesMeetTheInvariant : Prop := ∀ s : State, Reachable s → s.Inv

/-- "Low four bits of `F` are always zero across every observable state": every reachable state has them 0 and every
step keeps them so; whatever `F` held, an instruction leaves it as it was or writes it with those bits 0, and `POP AF`
does so for every byte popped (R23). -/
def Obligations.FlagLowNibbleIsAlwaysZero : Prop :=
  (∀ s : State, Reachable s → s.f &&& 0x0F = 0)
  ∧ (∀ s t : State, s.f &&& 0x0F = 0 → step s = .next t → t.f &&& 0x0F = 0)
  ∧ (∀ (i : Instr) (s t : State), exec i s = .next t → t.f = s.f ∨ t.f &&& 0x0F = 0)
  ∧ (∀ s : State, ∃ t, exec (.pop .af) s = .next t ∧ t.f &&& 0x0F = 0)

/-- Every step from every state answers a next state: no access faults (R61), and the one synchronous fault is a latch
(R350, R352, D7). -/
def Obligations.EveryStepAnswersNext : Prop := ∀ s : State, ∃ t, step s = .next t

/-- No step writes the cartridge image or the parameters: "Writes into `$0000–$7FFF` store nothing in ROM" (R72), and
no parameter changes after the machine is constructed (R8). -/
def Obligations.StepNeverWritesTheCartridge : Prop :=
  ∀ s t : State, step s = .next t →
    t.rom = s.rom ∧ t.romLen = s.romLen ∧ t.romBanks = s.romBanks ∧ t.cycleTable = s.cycleTable

/-- A step adds to `cycles`, modulo `2^64`, the count it returns: 0 with a fault latched, 5 for a dispatch, 1 for an
idle halted cycle, the instruction's `CYCLES` otherwise (R31, R340, R390). `CYCLES` is an argument of the machine (R8,
D8), so this holds whatever the counts are. -/
def Obligations.StepAddsTheCyclesItReturns : Prop :=
  ∀ s t : State, step s = .next t → t.cycles = s.cycles + BitVec.ofNat 64 (stepReturns s)

/-- A step with no fault latched, no dispatch due and the core awake runs the instruction the bytes at `PC` decode to:
`exec` of it on the state with the `EI` latch committed and `PC` past its bytes, then its cycles are added:
`CYCLES(op, op2, taken)` of the machine's own table, 0 for an undefined opcode (R340 step 4, R8, R103, R25). -/
def Obligations.StepRunsTheDecodedInstruction : Prop :=
  ∀ (s : State) (i : Instr) (rest : List Byte),
    s.faultLatch = none →
    (s.commitEI.ime = false ∨ s.pendingSource = none) →
    (s.halted = false ∨ s.pendingSource ≠ none) →
    decode [s.readByte s.pc, s.readByte (s.pc + 1), s.readByte (s.pc + 2)] = .ok (i, rest) →
    step s = addCyclesTo
      (if s.readByte s.pc ∈ undefinedOpcodes then 0
        else s.cycleTable.cycles (s.readByte s.pc) (s.readByte (s.pc + 1)) (branchTaken (s.readByte s.pc) s))
      (exec i { s.commitEI with halted := false, pc := s.pc + BitVec.ofNat 16 (encode i).length })

/-! ## Exceptions and run states -/

/-- While a fault is latched a step returns 0 and changes nothing, `cycles` included: no interrupt is dispatched (R340
step 0, R352, D7; log 6). -/
def Obligations.LatchedFaultFreezesTheMachine : Prop :=
  ∀ (s : State) (why : Fault), s.faultLatch = some why → step s = .next s ∧ stepReturns s = 0

/-- The undefined opcodes: `PC` goes back to the opcode byte, the latch records its address and the byte, nothing else
changes (R352, D7; log 6). -/
def Obligations.UndefinedOpcodeLatchesTheFault : Prop :=
  ∀ (k : IllegalOp) (s : State), ∃ t, exec (.illegal k) s = .next t
    ∧ t = { s with pc := s.pc - 1, faultLatch := some (.illegalInstruction (s.pc - 1) k.byte) }
    ∧ SameBytes s t

/-- A step latches a fault exactly where it fetches one of the eleven undefined opcodes; it records where and which,
`PC` stays, and besides the `EI` commit and the wake nothing changes (R350, R352, D7; log 6). -/
def Obligations.FaultOnlyAtAnUndefinedOpcode : Prop :=
  ∀ s t : State, s.faultLatch = none → step s = .next t →
    (t.faultLatch ≠ none ↔
      (s.readByte s.pc ∈ undefinedOpcodes ∧ (s.commitEI.ime = false ∨ s.pendingSource = none)
        ∧ (s.halted = false ∨ s.pendingSource ≠ none)))
    ∧ (t.faultLatch ≠ none →
      t = { s.commitEI with halted := false, faultLatch := some (.illegalInstruction s.pc (s.readByte s.pc)) })

/-- Priority: the source served is pending and enabled, and none of a lower index is; there is none exactly when no
enabled source is pending; bits 7..5 never count (R342, R347). -/
def Obligations.LowestEnabledSourceIsServed : Prop :=
  ∀ (s : State) (src : Source),
    (s.pendingSource = some src ↔
      ((s.readByte 0xFF0F &&& s.readByte 0xFFFF).getLsbD src.index = true
        ∧ ∀ other : Source, other.index < src.index →
            (s.readByte 0xFF0F &&& s.readByte 0xFFFF).getLsbD other.index = false))
    ∧ (s.pendingSource = none ↔ s.readByte 0xFF0F &&& s.readByte 0xFFFF &&& 0x1F = 0)

/-- Taking an interrupt: with `IME` 1 and an enabled source pending, the step saves only `PC`, on the stack, high byte
first, through the MMU; clears the source's bit in the value `IF` then has; goes to `$0040 + 8*i`; clears `IME`,
`halted` and (D4, log 10) the `EI` latch; adds 5 cycles; fetches nothing and changes nothing else (R344, R345, R343,
R347, D17; log 18). -/
def Obligations.InterruptIsTaken : Prop :=
  ∀ (s : State) (src : Source),
    s.faultLatch = none → s.commitEI.ime = true → s.pendingSource = some src →
    ∃ m t, step s = .next t
      ∧ m = (s.writeByte (s.sp - 1) (hiByte s.pc)).writeByte (s.sp - 2) (loByte s.pc)
      ∧ t = { m with
          io := t.io, pc := BitVec.ofNat 16 (0x40 + 8 * src.index), sp := s.sp - 2
          ime := false, imePending := false, eiJust := false, halted := false, cycles := s.cycles + 5 }
      ∧ t.readByte 0xFF0F = m.readByte 0xFF0F &&& ~~~((1 : Byte) <<< src.index)
      ∧ (∀ b : Word, b ≠ 0xFF0F → t.readByte b = m.readByte b)
      ∧ (∀ b : Word, b ≠ 0xFF0F → storeAffects s (s.sp - 1) b = false →
          storeAffects (s.writeByte (s.sp - 1) (hiByte s.pc)) (s.sp - 2) b = false → t.readByte b = s.readByte b)

/-- The wait state: halted with no enabled source pending, a step fetches nothing, adds one cycle and, besides the
`EI` commit, changes nothing (R131, R340, R358). -/
def Obligations.HaltedCoreIdles : Prop :=
  ∀ s : State, s.faultLatch = none → s.halted = true → s.pendingSource = none →
    step s = .next { s.commitEI with cycles := s.cycles + 1 }

/-- Wake-up: halted with an enabled source pending, whatever `IME` is, the step is the step of the same state awake: it
dispatches where `IME` is 1, and else runs the instruction after `HALT` in that same step, once; `halted` is 0 after it
unless that instruction is `HALT` again (R131, R343, D5; log 5). -/
def Obligations.EnabledSourceWakesTheCore : Prop :=
  ∀ s : State, s.faultLatch = none → s.halted = true → s.pendingSource ≠ none →
    step s = step { s with halted := false }
    ∧ ∀ t, step s = .next t → s.fetched ≠ .halt → t.halted = false

/-- The delay of `EI`: the step that runs `EI` leaves `IME` 0; the next step dispatches nothing and runs its
instruction; after it, unless that instruction is `DI`, the commit of the step after sets `IME` (R290, R341, C2, D1;
log 7). -/
def Obligations.EiEnablesAfterOneInstruction : Prop :=
  ∀ s t : State,
    s.faultLatch = none → s.ime = false → s.imePending = false →
    (s.halted = false ∨ s.pendingSource ≠ none) → s.fetched = .ei → step s = .next t →
    t.ime = false ∧ t.imePending = true ∧ t.eiJust = true ∧ t.commitEI.ime = false
    ∧ step t = { t with eiJust := false, halted := false }.runInstruction
    ∧ ∀ u, step t = .next u → t.fetched ≠ .di →
        u.commitEI.ime = true ∧ u.commitEI.imePending = false ∧ (t.fetched ≠ .reti → u.ime = false)

/-- Who writes `IME` and `halted`: in a step with no fault latched, `IME` ends at 1 where the commit did not set it
only by `RETI`, and ends at 0 where the commit left it 1 only by `DI` or a dispatch (R27); `halted` is set only by
`HALT` (R30). -/
def Obligations.OnlyListedEventsWriteImeAndHalted : Prop :=
  ∀ s t : State, s.faultLatch = none → step s = .next t →
    (s.commitEI.ime = false → t.ime = true → s.fetched = .reti)
    ∧ (s.commitEI.ime = true → t.ime = false → s.fetched = .di ∨ s.pendingSource ≠ none)
    ∧ (s.halted = false → t.halted = true → s.fetched = .halt)

/-! ## Memory -/

/-- The read dispatch, region by region: "`ROM[off]` when `off < ROM_LEN`, else `$FF`" for ROM, bank 0 always at
`$0000-$3FFF`, the effective bank at `$4000-$7FFF` (R64, R65, R66). -/
def Obligations.ReadDispatchByRegion : Prop :=
  ∀ (s : State) (addr : Word),
    (addr.toNat ≤ 0x3FFF → s.readByte addr = s.romByte addr.toNat)
    ∧ (0x4000 ≤ addr.toNat → addr.toNat ≤ 0x7FFF →
        s.readByte addr = s.romByte (s.romBank * 0x4000 + (addr.toNat - 0x4000)))
    ∧ (∀ off, s.romByte off = if off < s.romLen then Memory.read Config.romUnlisted s.rom off else 0xFF)
    ∧ (0x8000 ≤ addr.toNat → addr.toNat ≤ 0x9FFF → s.readByte addr = s.readPlace (.vram (addr.toNat - 0x8000)))
    ∧ (0xA000 ≤ addr.toNat → addr.toNat ≤ 0xBFFF →
        s.readByte addr = if s.ramEnable then s.readPlace (.cartRam (s.ramIndex addr)) else 0xFF)
    ∧ (0xC000 ≤ addr.toNat → addr.toNat ≤ 0xDFFF → s.readByte addr = s.readPlace (.wram (addr.toNat - 0xC000)))
    ∧ (0xE000 ≤ addr.toNat → addr.toNat ≤ 0xFDFF → s.readByte addr = s.readByte (addr - 0x2000))
    ∧ (0xFE00 ≤ addr.toNat → addr.toNat ≤ 0xFE9F → s.readByte addr = s.readPlace (.oam (addr.toNat - 0xFE00)))
    ∧ (0xFEA0 ≤ addr.toNat → addr.toNat ≤ 0xFEFF → s.readByte addr = 0xFF)
    ∧ (0xFF00 ≤ addr.toNat → addr.toNat ≤ 0xFF7F → s.readByte addr = s.readPlace (.io (addr.toNat - 0xFF00)))
    ∧ (0xFF80 ≤ addr.toNat → addr.toNat ≤ 0xFFFE → s.readByte addr = s.readPlace (.hram (addr.toNat - 0xFF80)))
    ∧ (addr.toNat = 0xFFFF → s.readByte addr = s.ie)

/-- Round trip: "for every writable region and every byte `v`, `Write(addr, v); Read(addr) == v`"; the writable
regions are VRAM, WRAM, Echo, OAM, I/O (`$FF46` included), High RAM, `IE`, and external RAM while it is enabled. It
does not hold in ROM space, and in the prohibited region and in disabled external RAM the write is dropped and a read
gives `$FF` (R71; R60, R67, R73). -/
def Obligations.WriteThenReadRoundTrip : Prop :=
  (∀ (s : State) (addr : Word) (v : Byte),
    0x8000 ≤ addr.toNat →
    (0xA000 ≤ addr.toNat → addr.toNat ≤ 0xBFFF → s.ramEnable = true) →
    ¬ (0xFEA0 ≤ addr.toNat ∧ addr.toNat ≤ 0xFEFF) →
    (s.writeByte addr v).readByte addr = v)
  ∧ (∀ (s : State) (addr : Word) (v : Byte),
    ((0xFEA0 ≤ addr.toNat ∧ addr.toNat ≤ 0xFEFF)
      ∨ (0xA000 ≤ addr.toNat ∧ addr.toNat ≤ 0xBFFF ∧ s.ramEnable = false)) →
    s.writeByte addr v = s ∧ s.readByte addr = 0xFF)
  ∧ (∀ addr : Word, addr.toNat ≤ 0x7FFF → ∃ (s : State) (v : Byte), (s.writeByte addr v).readByte addr ≠ v)

/-- What a store leaves alone: every address it cannot reach reads as before, and nothing outside memory changes
(R70, R72 to R74, R77 to R79). -/
def Obligations.StoreLeavesTheRestAlone : Prop :=
  ∀ (s : State) (addr : Word) (v : Byte),
    ReadsAsBefore s (s.writeByte addr v) addr
    ∧ s.writeByte addr v = s.withMemoryOf (s.writeByte addr v)

/-- "The Echo region is a true alias": a read and a write at an echo address are the read and the write at the
address `$2000` below, and both addresses read the byte written (R68, R74). -/
def Obligations.EchoIsATrueAlias : Prop :=
  ∀ (s : State) (addr : Word) (v : Byte), 0xE000 ≤ addr.toNat → addr.toNat ≤ 0xFDFF →
    s.readByte addr = s.readByte (addr - 0x2000)
    ∧ s.writeByte addr v = s.writeByte (addr - 0x2000) v
    ∧ (s.writeByte addr v).readByte (addr - 0x2000) = v
    ∧ (s.writeByte (addr - 0x2000) v).readByte addr = v

/-- The MBC1 state machine: each of the four ranges loads its latch from the listed bits of the byte, whatever the
address within the range, and changes nothing else (R72). -/
def Obligations.RomSpaceWritesLoadTheLatches : Prop :=
  ∀ (s : State) (addr : Word) (v : Byte),
    (addr.toNat ≤ 0x1FFF → s.writeByte addr v = { s with ramEnable := decide (v.toNat % 16 = 0x0A) })
    ∧ (0x2000 ≤ addr.toNat → addr.toNat ≤ 0x3FFF →
        s.writeByte addr v
          = { s with romBankLow5 := if v.toNat % 32 = 0 then 1 else BitVec.ofNat 5 (v.toNat % 32) })
    ∧ (0x4000 ≤ addr.toNat → addr.toNat ≤ 0x5FFF →
        s.writeByte addr v = { s with romBankHigh2 := BitVec.ofNat 2 (v.toNat % 4) })
    ∧ (0x6000 ≤ addr.toNat → addr.toNat ≤ 0x7FFF →
        s.writeByte addr v = { s with bankingMode := decide (v.toNat % 2 = 1) })

/-- The effective banks: `((rom_bank_high2 << 5) | rom_bank_low5)` reduced by the power-of-two bank count, the
unmasked number never `$00`, `$20`, `$40` or `$60` (R75, C4); RAM bank 0 in mode 0, else `rom_bank_high2`, and the
index always inside the 32768 cells (R76, D12; log 13). -/
def Obligations.EffectiveBanks : Prop :=
  ∀ s : State, s.Inv →
    s.romBank = (s.romBankHigh2.toNat * 32 + s.romBankLow5.toNat) % s.romBanks
    ∧ s.unmaskedRomBank ≠ 0x00 ∧ s.unmaskedRomBank ≠ 0x20 ∧ s.unmaskedRomBank ≠ 0x40 ∧ s.unmaskedRomBank ≠ 0x60
    ∧ (s.bankingMode = false → s.ramBank = 0) ∧ (s.bankingMode = true → s.ramBank = s.romBankHigh2.toNat)
    ∧ ∀ addr : Word, 0xA000 ≤ addr.toNat → addr.toNat ≤ 0xBFFF →
        s.ramIndex addr = s.ramBank * 0x2000 + (addr.toNat - 0xA000) ∧ s.ramIndex addr < 32768

/-- OAM DMA: a write of `v` to `$FF46` leaves in OAM the 160 bytes that `(v << 8) + i` read before it, holds `v` at
`$FF46`, and changes nothing else (R78, D16; log 17). -/
def Obligations.OamDmaCopiesThePage : Prop :=
  ∀ (s : State) (v : Byte),
    (∀ i, i < 160 →
      (s.writeByte 0xFF46 v).readByte (0xFE00 + BitVec.ofNat 16 i)
        = s.readByte (BitVec.ofNat 16 (v.toNat * 256 + i)))
    ∧ (s.writeByte 0xFF46 v).readByte 0xFF46 = v
    ∧ s.writeByte 0xFF46 v = { s with oam := (s.writeByte 0xFF46 v).oam, io := (s.writeByte 0xFF46 v).io }
    ∧ (∀ b : Word, b ≠ 0xFF46 → ¬ (0xFE00 ≤ b.toNat ∧ b.toNat ≤ 0xFE9F) →
        (s.writeByte 0xFF46 v).readByte b = s.readByte b)

/-! ## Registers and operands -/

/-- The register file: seven registers, each 0 after reset; a register written holds the byte whatever it is, and no
other register and nothing else changes (R20); `H:L` and the other pairs are views, high register first, and writing a
pair writes both halves; a write to `AF` passes through the mask (R21, R23). -/
def Obligations.RegistersAndPairs : Prop :=
  (∀ r : Reg8, State.reset.reg r = 0x00)
  ∧ (∀ (s : State) (r q : Reg8) (v : Byte),
    (s.setReg r v).reg q = if q = r then v else s.reg q)
  ∧ (∀ (s : State) (r : Reg8) (v : Byte),
    s.setReg r v = { s with
      a := (s.setReg r v).a, b := (s.setReg r v).b, c := (s.setReg r v).c, d := (s.setReg r v).d
      e := (s.setReg r v).e, h := (s.setReg r v).h, l := (s.setReg r v).l })
  ∧ (∀ s : State, s.bc.toNat = s.b.toNat * 256 + s.c.toNat ∧ s.de.toNat = s.d.toNat * 256 + s.e.toNat
      ∧ s.hl.toNat = s.h.toNat * 256 + s.l.toNat ∧ s.af.toNat = s.a.toNat * 256 + s.f.toNat)
  ∧ (∀ (s : State) (p : Reg16) (v : Word), (s.setPair p v).pair p = v)
  ∧ (∀ (s : State) (p : StackPair) (v : Word),
      (s.setStackPair p v).stackPair p = if p = .af then v &&& 0xFFF0 else v)
  ∧ (∀ s : State, s.readOperand .atHl = s.readByte s.hl ∧ ∀ r : Reg8, s.readOperand (.reg r) = s.reg r)

/-! ## Control, loads -/

/-- `NOP` does nothing, `STOP` ignores its byte and does nothing (D6, log 11), `HALT` sets `halted` and nothing else
(R130, R131, R132). -/
def Obligations.NopStopHalt : Prop :=
  ∀ (s : State) (n : Byte),
    exec .nop s = .next s ∧ exec (.stop n) s = .next s ∧ exec .halt s = .next { s with halted := true }

/-- `LD r,r'` and `LD r,d8`: the register gets the value of the source as it was; no flag, no memory, no other register
changes (R140, R143). -/
def Obligations.LoadsIntoARegister : Prop :=
  ∀ (s : State) (r : Reg8),
    (∀ src : Reg8, ∃ t, exec (.ldRegReg r src) s = .next t
      ∧ t = s.setReg r (s.reg src) ∧ t.reg r = s.reg src ∧ (∀ q, q ≠ r → t.reg q = s.reg q) ∧ SameBytes s t)
    ∧ (∀ n : Byte, ∃ t, exec (.ldRegD8 r n) s = .next t
      ∧ t = s.setReg r n ∧ t.reg r = n ∧ (∀ q, q ≠ r → t.reg q = s.reg q) ∧ SameBytes s t)

/-- Loads from memory: the register gets the byte at the address, the address taken before the load (`LD H,(HL)`);
`LD A,(HL+)` and `LD A,(HL-)` then move `HL` by one, modulo `2^16` (the order is G7, log 22); no flag, no other
register and no memory changes (R141, R149 to R152, R154, R156, R158). -/
def Obligations.LoadsFromMemory : Prop :=
  ∀ s : State,
    (∀ r : Reg8, ∃ t, exec (.ldRegAtHl r) s = .next t
      ∧ t = s.setReg r (s.readByte (mkWord s.h s.l)) ∧ (∀ q, q ≠ r → t.reg q = s.reg q) ∧ SameBytes s t)
    ∧ (∃ t, exec .ldAAtBc s = .next t ∧ t = { s with a := s.readByte (mkWord s.b s.c) } ∧ SameBytes s t)
    ∧ (∃ t, exec .ldAAtDe s = .next t ∧ t = { s with a := s.readByte (mkWord s.d s.e) } ∧ SameBytes s t)
    ∧ (∀ w : Word, ∃ t, exec (.ldAAtA16 w) s = .next t ∧ t = { s with a := s.readByte w } ∧ SameBytes s t)
    ∧ (∀ n : Byte, ∃ t, exec (.ldhAAtA8 n) s = .next t
      ∧ t = { s with a := s.readByte (BitVec.ofNat 16 (0xFF00 + n.toNat)) } ∧ SameBytes s t)
    ∧ (∃ t, exec .ldAAtC s = .next t
      ∧ t = { s with a := s.readByte (BitVec.ofNat 16 (0xFF00 + s.c.toNat)) } ∧ SameBytes s t)
    ∧ (∃ t, exec .ldAAtHlInc s = .next t
      ∧ t = { s with a := s.readByte s.hl, h := t.h, l := t.l }
      ∧ t.hl.toNat = (s.hl.toNat + 1) % 65536 ∧ SameBytes s t)
    ∧ (∃ t, exec .ldAAtHlDec s = .next t
      ∧ t = { s with a := s.readByte s.hl, h := t.h, l := t.l }
      ∧ t.hl.toNat = (s.hl.toNat + 65535) % 65536 ∧ SameBytes s t)

/-- What a store of one byte leaves: the byte goes through the write dispatch at `addr`, nothing but memory changes,
every address the store cannot reach reads as before, and a cell that holds what is stored reads the byte. -/
def StoreLeaves (s : State) (addr : Word) (v : Byte) (t : State) : Prop :=
  t = s.writeByte addr v ∧ t = s.withMemoryOf t ∧ ReadsAsBefore s t addr ∧ (Holds s addr → t.readByte addr = v)

/-- Stores of a byte, each at its form's address; registers and flags are unchanged (R142, R144, R145, R146, R153,
R155, R157). `LD (HL+),A` and `LD (HL-),A` store at the old `HL` and then move `HL` by one, modulo `2^16` (R147,
R148; the order is G7, log 22). -/
def Obligations.StoresOfAByte : Prop :=
  ∀ s : State,
    (∀ r : Reg8, ∃ t, exec (.ldAtHlReg r) s = .next t ∧ StoreLeaves s s.hl (s.reg r) t)
    ∧ (∀ n : Byte, ∃ t, exec (.ldAtHlD8 n) s = .next t ∧ StoreLeaves s s.hl n t)
    ∧ (∃ t, exec .ldAtBcA s = .next t ∧ StoreLeaves s s.bc s.a t)
    ∧ (∃ t, exec .ldAtDeA s = .next t ∧ StoreLeaves s s.de s.a t)
    ∧ (∀ w : Word, ∃ t, exec (.ldAtA16A w) s = .next t ∧ StoreLeaves s w s.a t)
    ∧ (∀ n : Byte, ∃ t, exec (.ldhAtA8A n) s = .next t ∧ StoreLeaves s (BitVec.ofNat 16 (0xFF00 + n.toNat)) s.a t)
    ∧ (∃ t, exec .ldAtCA s = .next t ∧ StoreLeaves s (BitVec.ofNat 16 (0xFF00 + s.c.toNat)) s.a t)
    ∧ (∃ t, exec .ldAtHlIncA s = .next t ∧ StoreLeaves s s.hl s.a { t with h := s.h, l := s.l }
      ∧ t.hl.toNat = (s.hl.toNat + 1) % 65536)
    ∧ (∃ t, exec .ldAtHlDecA s = .next t ∧ StoreLeaves s s.hl s.a { t with h := s.h, l := s.l }
      ∧ t.hl.toNat = (s.hl.toNat + 65535) % 65536)

/-- `LD rp,d16` and `LD SP,HL`: the pair gets the value, the other registers, the flags and memory are unchanged
(R170, R173; `LD SP,HL` is G8, log 22). -/
def Obligations.LoadsOfAPair : Prop :=
  ∀ s : State,
    (∀ (p : Reg16) (w : Word), ∃ t, exec (.ldPairD16 p w) s = .next t
      ∧ t = s.setPair p w ∧ t.pair p = w ∧ (∀ q, q ≠ p → t.pair q = s.pair q) ∧ t.a = s.a ∧ t.f = s.f ∧ SameBytes s t)
    ∧ (∃ t, exec .ldSpHl s = .next t ∧ t = { s with sp := s.hl } ∧ SameBytes s t)

/-- `LD (a16),SP`: two byte stores, the low byte at `a16` first, the high byte at `a16 + 1` modulo `2^16`; registers
and flags are unchanged (R171, D15; log 16). -/
def Obligations.StoreOfSp : Prop :=
  ∀ (s : State) (w : Word), ∃ t, exec (.ldAtA16Sp w) s = .next t
    ∧ t = (s.writeByte w (loByte s.sp)).writeByte (w + 1) (hiByte s.sp)
    ∧ t = s.withMemoryOf t
    ∧ (∀ b, storeAffects s w b = false → storeAffects (s.writeByte w (loByte s.sp)) (w + 1) b = false →
        t.readByte b = s.readByte b)
    ∧ (Holds s w → Holds s (w + 1) → t.readByte w = loByte s.sp ∧ t.readByte (w + 1) = hiByte s.sp)

/-! ## Arithmetic and logic -/

/-- `LD HL,SP+r8` and `ADD SP,r8`: the sign-extended displacement is added modulo `2^16`; `Z` and `N` 0, `H` and `C`
the carries of the unsigned low nibble and low byte of the old `SP` and the operand byte (R172, R183, D24; log 21). -/
def Obligations.SpPlusDisplacement : Prop :=
  ∀ (s : State) (e : Byte),
    (∃ t, exec (.ldHlSpR8 e) s = .next t
      ∧ t = { s with h := t.h, l := t.l, f := t.f }
      ∧ (t.hl.toNat : Int) = ((s.sp.toNat : Int) + e.toInt) % 65536
      ∧ FlagsAre t false false (decide (s.sp.toNat % 16 + e.toNat % 16 > 15)) (decide (s.sp.toNat % 256 + e.toNat > 255))
      ∧ SameBytes s t)
    ∧ (∃ t, exec (.addSpR8 e) s = .next t
      ∧ t = { s with sp := t.sp, f := t.f }
      ∧ (t.sp.toNat : Int) = ((s.sp.toNat : Int) + e.toInt) % 65536
      ∧ FlagsAre t false false (decide (s.sp.toNat % 16 + e.toNat % 16 > 15)) (decide (s.sp.toNat % 256 + e.toNat > 255))
      ∧ SameBytes s t)

/-- `INC rp` and `DEC rp`: the pair moves by one, modulo `2^16`; "no flags"; nothing else changes (R180, R181). -/
def Obligations.IncDecOfAPair : Prop :=
  ∀ (s : State) (p : Reg16),
    (∃ t, exec (.incPair p) s = .next t ∧ t = s.setPair p (t.pair p)
      ∧ (t.pair p).toNat = ((s.pair p).toNat + 1) % 65536
      ∧ (∀ q, q ≠ p → t.pair q = s.pair q) ∧ t.f = s.f ∧ SameBytes s t)
    ∧ (∃ t, exec (.decPair p) s = .next t ∧ t = s.setPair p (t.pair p)
      ∧ (t.pair p).toNat = ((s.pair p).toNat + 65535) % 65536
      ∧ (∀ q, q ≠ p → t.pair q = s.pair q) ∧ t.f = s.f ∧ SameBytes s t)

/-- `ADD HL,rp`: "N=0; H = carry from bit 11; C = carry from bit 15; Z unaffected"; only `HL` and the flags change
(R182). -/
def Obligations.AddOfAPairToHl : Prop :=
  ∀ (s : State) (p : Reg16), ∃ t, exec (.addHlPair p) s = .next t
    ∧ t = { s with h := t.h, l := t.l, f := t.f }
    ∧ t.hl.toNat + 65536 * t.flagC.toNat = s.hl.toNat + (s.pair p).toNat
    ∧ FlagsAre t s.flagZ false (decide (s.hl.toNat % 4096 + (s.pair p).toNat % 4096 > 4095))
        (decide (s.hl.toNat + (s.pair p).toNat > 65535))
    ∧ SameBytes s t

/-- `INC r`, `DEC r`, `INC (HL)`, `DEC (HL)`: the operand moves by one, modulo 256; `Z` from the result, `N` 0 or 1,
`H` the carry or borrow of bit 3, `C` kept; nothing else changes, and a memory form does one store at `HL` (R190 to
R193). -/
def Obligations.IncDecOfAByte : Prop :=
  ∀ s : State,
    (∀ r : Reg8, ∃ t, exec (.incReg r) s = .next t ∧ t = { s.setReg r (t.reg r) with f := t.f }
      ∧ (t.reg r).toNat = ((s.reg r).toNat + 1) % 256
      ∧ FlagsAre t (decide ((s.reg r).toNat = 255)) false (decide ((s.reg r).toNat % 16 = 15)) s.flagC ∧ SameBytes s t)
    ∧ (∀ r : Reg8, ∃ t, exec (.decReg r) s = .next t ∧ t = { s.setReg r (t.reg r) with f := t.f }
      ∧ (t.reg r).toNat = ((s.reg r).toNat + 255) % 256
      ∧ FlagsAre t (decide ((s.reg r).toNat = 1)) true (decide ((s.reg r).toNat % 16 = 0)) s.flagC ∧ SameBytes s t)
    ∧ (∃ t, exec .incAtHl s = .next t
      ∧ t = { s.writeByte s.hl (BitVec.ofNat 8 ((s.readByte s.hl).toNat + 1)) with f := t.f }
      ∧ FlagsAre t (decide ((s.readByte s.hl).toNat = 255)) false (decide ((s.readByte s.hl).toNat % 16 = 15)) s.flagC
      ∧ ReadsAsBefore s t s.hl)
    ∧ (∃ t, exec .decAtHl s = .next t
      ∧ t = { s.writeByte s.hl (BitVec.ofNat 8 ((s.readByte s.hl).toNat + 255)) with f := t.f }
      ∧ FlagsAre t (decide ((s.readByte s.hl).toNat = 1)) true (decide ((s.readByte s.hl).toNat % 16 = 0)) s.flagC
      ∧ ReadsAsBefore s t s.hl)

/-- What an addition with carry leaves: `A` and the carry flag are the sum, `H` the carry out of bit 3, `Z` whether
`A` is 0, `N` 0; only `A` and the flags change (R195, R196). -/
def AdditionLeaves (s : State) (v : Byte) (cin : Bool) (t : State) : Prop :=
  t = { s with a := t.a, f := t.f }
  ∧ t.a.toNat + 256 * t.flagC.toNat = s.a.toNat + v.toNat + cin.toNat
  ∧ FlagsAre t (decide (t.a.toNat = 0)) false (decide (s.a.toNat % 16 + v.toNat % 16 + cin.toNat > 15))
      (decide (s.a.toNat + v.toNat + cin.toNat > 255))
  ∧ SameBytes s t

/-- `ADD` and `ADC`, with a register, `(HL)` or immediate operand (R194, R195, R196). -/
def Obligations.AdditionToA : Prop :=
  ∀ s : State,
    (∀ o : Operand8, ∃ t, exec (.alu .add o) s = .next t ∧ AdditionLeaves s (s.readOperand o) false t)
    ∧ (∀ n : Byte, ∃ t, exec (.aluD8 .add n) s = .next t ∧ AdditionLeaves s n false t)
    ∧ (∀ o : Operand8, ∃ t, exec (.alu .adc o) s = .next t ∧ AdditionLeaves s (s.readOperand o) s.flagC t)
    ∧ (∀ n : Byte, ∃ t, exec (.aluD8 .adc n) s = .next t ∧ AdditionLeaves s n s.flagC t)

/-- The flags of a subtraction with borrow: `Z` whether the difference modulo 256 is 0, `N` 1, `H` and `C` the borrows
against an unbounded right side (R197, R198). -/
def SubtractionFlags (s : State) (v : Byte) (bin : Bool) (t : State) : Prop :=
  FlagsAre t (decide (((s.a.toNat : Int) - v.toNat - bin.toNat) % 256 = 0)) true
    (decide (s.a.toNat % 16 < v.toNat % 16 + bin.toNat)) (decide (s.a.toNat < v.toNat + bin.toNat))

/-- What a subtraction with borrow leaves; only `A` and the flags change (R197, R198). -/
def SubtractionLeaves (s : State) (v : Byte) (bin : Bool) (t : State) : Prop :=
  t = { s with a := t.a, f := t.f }
  ∧ (t.a.toNat : Int) = ((s.a.toNat : Int) - v.toNat - bin.toNat) % 256
  ∧ SubtractionFlags s v bin t
  ∧ SameBytes s t

/-- `SUB` and `SBC`, with a register, `(HL)` or immediate operand; `CP` gives the flags of `SUB` "but A is not
modified" (R194, R197, R198, R202). -/
def Obligations.SubtractionFromA : Prop :=
  ∀ s : State,
    (∀ o : Operand8, ∃ t, exec (.alu .sub o) s = .next t ∧ SubtractionLeaves s (s.readOperand o) false t)
    ∧ (∀ n : Byte, ∃ t, exec (.aluD8 .sub n) s = .next t ∧ SubtractionLeaves s n false t)
    ∧ (∀ o : Operand8, ∃ t, exec (.alu .sbc o) s = .next t ∧ SubtractionLeaves s (s.readOperand o) s.flagC t)
    ∧ (∀ n : Byte, ∃ t, exec (.aluD8 .sbc n) s = .next t ∧ SubtractionLeaves s n s.flagC t)
    ∧ (∀ o : Operand8, ∃ t, exec (.alu .cp o) s = .next t
        ∧ t = { s with f := t.f } ∧ SubtractionFlags s (s.readOperand o) false t ∧ SameBytes s t)
    ∧ (∀ n : Byte, ∃ t, exec (.aluD8 .cp n) s = .next t
        ∧ t = { s with f := t.f } ∧ SubtractionFlags s n false t ∧ SameBytes s t)

/-- What a bitwise operation leaves: bit `i` of `A` is `bit` of the old bits, `Z` whether `A` is 0, `N` and `C` 0, `H`
as given; only `A` and the flags change (R199 to R201). -/
def BitwiseLeaves (bit : Bool → Bool → Bool) (h : Bool) (s : State) (v : Byte) (t : State) : Prop :=
  t = { s with a := t.a, f := t.f }
  ∧ (∀ i, i < 8 → t.a.getLsbD i = bit (s.a.getLsbD i) (v.getLsbD i))
  ∧ FlagsAre t (decide (t.a = 0)) false h false
  ∧ SameBytes s t

/-- `AND`, `XOR`, `OR`, with a register, `(HL)` or immediate operand (R194, R199, R200, R201; C7). -/
def Obligations.BitwiseOnA : Prop :=
  ∀ s : State,
    (∀ o : Operand8, ∃ t, exec (.alu .and o) s = .next t ∧ BitwiseLeaves and true s (s.readOperand o) t)
    ∧ (∀ n : Byte, ∃ t, exec (.aluD8 .and n) s = .next t ∧ BitwiseLeaves and true s n t)
    ∧ (∀ o : Operand8, ∃ t, exec (.alu .xor o) s = .next t ∧ BitwiseLeaves Bool.xor false s (s.readOperand o) t)
    ∧ (∀ n : Byte, ∃ t, exec (.aluD8 .xor n) s = .next t ∧ BitwiseLeaves Bool.xor false s n t)
    ∧ (∀ o : Operand8, ∃ t, exec (.alu .or o) s = .next t ∧ BitwiseLeaves or false s (s.readOperand o) t)
    ∧ (∀ n : Byte, ∃ t, exec (.aluD8 .or n) s = .next t ∧ BitwiseLeaves or false s n t)

/-- Where bit `i` of the result of a rotate, shift or `SWAP` comes from: `cin` is the carry flag before it (R301 to
R308, G6; log 22). -/
def rotSource (op : RotOp) (v : Byte) (cin : Bool) (i : Nat) : Bool :=
  match op with
  | .rlc => if i = 0 then v.getLsbD 7 else v.getLsbD (i - 1)
  | .rrc => if i = 7 then v.getLsbD 0 else v.getLsbD (i + 1)
  | .rl => if i = 0 then cin else v.getLsbD (i - 1)
  | .rr => if i = 7 then cin else v.getLsbD (i + 1)
  | .sla => if i = 0 then false else v.getLsbD (i - 1)
  | .sra => if i = 7 then v.getLsbD 7 else v.getLsbD (i + 1)
  | .swap => v.getLsbD ((i + 4) % 8)
  | .srl => if i = 7 then false else v.getLsbD (i + 1)

/-- The bit a rotate or shift moves out, 0 for `SWAP` (R301 to R308). -/
def rotMovedOut (op : RotOp) (v : Byte) : Bool :=
  match op with
  | .rlc => v.getLsbD 7
  | .rl => v.getLsbD 7
  | .sla => v.getLsbD 7
  | .rrc => v.getLsbD 0
  | .rr => v.getLsbD 0
  | .sra => v.getLsbD 0
  | .srl => v.getLsbD 0
  | .swap => false

/-- What a rotate of the accumulator leaves; only `A` and the flags change (R230 to R233). -/
def RotatedA (op : RotOp) (s t : State) : Prop :=
  t = { s with a := t.a, f := t.f }
  ∧ (∀ i, i < 8 → t.a.getLsbD i = rotSource op s.a s.flagC i)
  ∧ FlagsAre t false false false (rotMovedOut op s.a)
  ∧ SameBytes s t

/-- `RLCA`, `RRCA`, `RLA`, `RRA`: "Z=0 in all four, N=0, H=0", `C` the bit rotated out; only `A` and the flags change
(R230 to R233; what moves where is G6, log 22). -/
def Obligations.RotatesOfA : Prop :=
  ∀ s : State,
    (∃ t, exec .rlca s = .next t ∧ RotatedA .rlc s t)
    ∧ (∃ t, exec .rrca s = .next t ∧ RotatedA .rrc s t)
    ∧ (∃ t, exec .rla s = .next t ∧ RotatedA .rl s t)
    ∧ (∃ t, exec .rra s = .next t ∧ RotatedA .rr s t)

/-- `DAA`: the correction of `A` by the flags `N`, `H`, `C` and, after an addition, by the digits of `A`; `Z` from the
result, `H` 0, `N` kept, `C` set where the `$60` test fired and kept otherwise; only `A` and the flags change (R234,
D20; log 20). -/
def Obligations.DecimalAdjustOfA : Prop :=
  ∀ s : State, ∃ t, exec .daa s = .next t
    ∧ t = { s with a := t.a, f := t.f }
    ∧ (s.flagN = false →
        t.a.toNat = (s.a.toNat + (if s.flagC = true ∨ s.a.toNat > 0x99 then 0x60 else 0)
          + (if s.flagH = true ∨ s.a.toNat % 16 > 9 then 6 else 0)) % 256
        ∧ FlagsAre t (decide (t.a.toNat = 0)) false false (decide (s.flagC = true ∨ s.a.toNat > 0x99)))
    ∧ (s.flagN = true →
        (t.a.toNat : Int) = ((s.a.toNat : Int) - (if s.flagC = true then 0x60 else 0)
          - (if s.flagH = true then 6 else 0)) % 256
        ∧ FlagsAre t (decide (t.a.toNat = 0)) true false s.flagC)
    ∧ SameBytes s t

/-- What `DAA` is for: on two-digit BCD numbers, `ADD`, `ADC`, `SUB` or `SBC` followed by `DAA` adds or subtracts in
decimal, with the decimal carry or borrow in `C` (from R195 to R198 and R234). -/
def Obligations.DecimalArithmetic : Prop :=
  ∀ (s : State) (x y : Nat), x < 100 → y < 100 → s.a = bcd x →
    (∃ t u, exec (.aluD8 .add (bcd y)) s = .next t ∧ exec .daa t = .next u
      ∧ u.a = bcd ((x + y) % 100) ∧ u.flagC = decide (x + y ≥ 100))
    ∧ (∃ t u, exec (.aluD8 .adc (bcd y)) s = .next t ∧ exec .daa t = .next u
      ∧ u.a = bcd ((x + y + s.flagC.toNat) % 100) ∧ u.flagC = decide (x + y + s.flagC.toNat ≥ 100))
    ∧ (∃ t u, exec (.aluD8 .sub (bcd y)) s = .next t ∧ exec .daa t = .next u
      ∧ u.a = bcd ((x + 100 - y) % 100) ∧ u.flagC = decide (x < y))
    ∧ (∃ t u, exec (.aluD8 .sbc (bcd y)) s = .next t ∧ exec .daa t = .next u
      ∧ u.a = bcd ((x + 100 - (y + s.flagC.toNat)) % 100) ∧ u.flagC = decide (x < y + s.flagC.toNat))

/-- `CPL`, `SCF`, `CCF` write the flags they name and no other, `CPL` complements `A`; nothing else changes; "Two
successive CPL operations return A to its original value", "Two successive CCF operations return C to its original
value; both leave Z untouched" (R235, R236, R237, D20; log 20). -/
def Obligations.ComplementAndCarryOperations : Prop :=
  ∀ s : State,
    (∃ t u, exec .cpl s = .next t ∧ t = { s with a := t.a, f := t.f } ∧ t.a.toNat = 255 - s.a.toNat
      ∧ FlagsAre t s.flagZ true true s.flagC ∧ SameBytes s t ∧ exec .cpl t = .next u ∧ u.a = s.a)
    ∧ (∃ t, exec .scf s = .next t ∧ t = { s with f := t.f } ∧ FlagsAre t s.flagZ false false true ∧ SameBytes s t)
    ∧ (∃ t u, exec .ccf s = .next t ∧ t = { s with f := t.f } ∧ FlagsAre t s.flagZ false false (!s.flagC)
      ∧ SameBytes s t ∧ exec .ccf t = .next u ∧ u.flagC = s.flagC ∧ u.flagZ = s.flagZ)

/-! ## Jumps, calls, returns, the stack -/

/-- The truth of a condition (R107, R250). -/
def conditionIs (s : State) (cc : Cond) : Prop :=
  match cc with
  | .nz => s.flagZ = false
  | .z => s.flagZ = true
  | .nc => s.flagC = false
  | .cy => s.flagC = true

/-- What a relative jump leaves: `PC`, the address after the instruction, moved by the signed displacement modulo
`2^16`, and nothing else changed (R254). -/
def JumpedBy (s : State) (e : Byte) (t : State) : Prop :=
  t = { s with pc := t.pc } ∧ (t.pc.toNat : Int) = ((s.pc.toNat : Int) + e.toInt) % 65536

/-- Jumps write `PC` and nothing else: `JP a16`, `JP HL` (the value of `HL`, not memory), `JR r8` from the address
after the instruction, and their conditional forms, which change nothing when not taken (R251 to R255). -/
def Obligations.Jumps : Prop :=
  ∀ (s : State) (w : Word) (e : Byte),
    exec (.jpA16 w) s = .next { s with pc := w }
    ∧ exec .jpHl s = .next { s with pc := mkWord s.h s.l }
    ∧ (∃ t, exec (.jrR8 e) s = .next t ∧ JumpedBy s e t)
    ∧ (∀ cc : Cond, (conditionIs s cc → exec (.jpCond cc w) s = .next { s with pc := w })
        ∧ (¬ conditionIs s cc → exec (.jpCond cc w) s = .next s)
        ∧ (conditionIs s cc → ∃ t, exec (.jrCond cc e) s = .next t ∧ JumpedBy s e t)
        ∧ (¬ conditionIs s cc → exec (.jrCond cc e) s = .next s))

/-- What a call to `target` leaves: the address after the instruction on the stack, high byte at `SP - 1`, then low
byte at `SP - 2`, both through the MMU; `SP` down by 2; `PC` at the target; every address neither store can reach
reads as before, and nothing else changes (R256, R261). -/
def CallLeaves (s : State) (target : Word) (t : State) : Prop :=
  t = { (s.writeByte (s.sp - 1) (hiByte s.pc)).writeByte (s.sp - 2) (loByte s.pc) with sp := s.sp - 2, pc := target }
  ∧ (∀ b, storeAffects s (s.sp - 1) b = false →
      storeAffects (s.writeByte (s.sp - 1) (hiByte s.pc)) (s.sp - 2) b = false → t.readByte b = s.readByte b)
  ∧ (Holds s (s.sp - 1) → Holds s (s.sp - 2) → mkWord (t.readByte (t.sp + 1)) (t.readByte t.sp) = s.pc)

/-- `CALL a16`, the bytes `$CD`, low, high, `CALL cc,a16` (nothing is pushed when not taken) and `RST t`, to `t * 8`
(R256, R257, R261); a `RET` after `CALL a16` on a stack that holds what is stored comes back to the instruction after
the call with `SP` as it was. -/
def Obligations.CallsAndRestarts : Prop :=
  ∀ (s : State) (w : Word),
    encode (.callA16 w) = [0xCD, loByte w, hiByte w]
    ∧ (Holds s (s.sp - 1) → Holds s (s.sp - 2) →
        ∃ t u, exec (.callA16 w) s = .next t ∧ exec .ret t = .next u ∧ u.pc = s.pc ∧ u.sp = s.sp)
    ∧ (∃ t, exec (.callA16 w) s = .next t ∧ CallLeaves s w t)
    ∧ (∀ cc : Cond, (conditionIs s cc → ∃ t, exec (.callCond cc w) s = .next t ∧ CallLeaves s w t)
        ∧ (¬ conditionIs s cc → exec (.callCond cc w) s = .next s))
    ∧ (∀ n : RstNum, ∃ t, exec (.rst n) s = .next t ∧ CallLeaves s (BitVec.ofNat 16 (rstIndex n * 8)) t)

/-- What a return leaves: `PC` gets the low byte from `SP` and the high byte from `SP + 1`, `SP` goes up by 2, memory
and everything else is unchanged (R258, R12). -/
def ReturnLeaves (s t : State) : Prop :=
  t = { s with pc := mkWord (s.readByte (s.sp + 1)) (s.readByte s.sp), sp := s.sp + 2 } ∧ SameBytes s t

/-- `RET`, the byte `$C9`, `RET cc` (nothing is read when not taken) and `RETI`, which sets `IME` at once and leaves
the `EI` latch alone (R258, R259, R260). -/
def Obligations.Returns : Prop :=
  ∀ s : State,
    encode .ret = [0xC9]
    ∧ (∃ t, exec .ret s = .next t ∧ ReturnLeaves s t)
    ∧ (∀ cc : Cond, (conditionIs s cc → ∃ t, exec (.retCond cc) s = .next t ∧ ReturnLeaves s t)
        ∧ (¬ conditionIs s cc → exec (.retCond cc) s = .next s))
    ∧ (∃ t, exec .reti s = .next t ∧ ReturnLeaves { s with ime := true } t)

/-- `PUSH rp`, `PUSH AF`: the high register at `SP - 1`, then the low one at `SP - 2`, `SP` down by 2, the pair and the
flags unchanged; `POP rp`: the low register from `SP`, the high one from `SP + 1`, `SP` up by 2, memory unchanged;
`POP AF` masks bits 3..0 of `F` (R280 to R283). -/
def Obligations.PushAndPop : Prop :=
  ∀ (s : State) (p : StackPair),
    (∃ t, exec (.push p) s = .next t
      ∧ t = { (s.writeByte (s.sp - 1) (hiByte (s.stackPair p))).writeByte (s.sp - 2) (loByte (s.stackPair p)) with
              sp := s.sp - 2 }
      ∧ (∀ b, storeAffects s (s.sp - 1) b = false →
          storeAffects (s.writeByte (s.sp - 1) (hiByte (s.stackPair p))) (s.sp - 2) b = false →
          t.readByte b = s.readByte b))
    ∧ (∃ t, exec (.pop p) s = .next t
      ∧ (p = .bc → t = { s with b := s.readByte (s.sp + 1), c := s.readByte s.sp, sp := s.sp + 2 })
      ∧ (p = .de → t = { s with d := s.readByte (s.sp + 1), e := s.readByte s.sp, sp := s.sp + 2 })
      ∧ (p = .hl → t = { s with h := s.readByte (s.sp + 1), l := s.readByte s.sp, sp := s.sp + 2 })
      ∧ (p = .af → t = { s with a := s.readByte (s.sp + 1), f := s.readByte s.sp &&& 0xF0, sp := s.sp + 2 })
      ∧ SameBytes s t)

/-- The document's two stack laws, on a stack that holds what is stored: "`PUSH rp; POP rp` is identity (except for
the AF low-nibble mask)", and "`CALL addr; RET` returns PC to the instruction immediately after CALL; SP returns to
its pre-CALL value", for a restart too: every register, flag and latch ends as it was, and only memory has changed
(from R256, R258, R261, R280 to R283). -/
def Obligations.StackRoundTrips : Prop :=
  ∀ (s : State), Holds s (s.sp - 1) → Holds s (s.sp - 2) →
    (∀ p : StackPair, ∃ t u, exec (.push p) s = .next t ∧ exec (.pop p) t = .next u
      ∧ u = (if p = .af then { s.withMemoryOf u with f := s.f &&& 0xF0 } else s.withMemoryOf u))
    ∧ (∀ w : Word, ∃ t u, exec (.callA16 w) s = .next t ∧ t.pc = w ∧ exec .ret t = .next u ∧ u = s.withMemoryOf u)
    ∧ (∀ n : RstNum, ∃ t u, exec (.rst n) s = .next t ∧ exec .ret t = .next u ∧ u = s.withMemoryOf u)

/-- `EI` sets the delay latch where it is not set already and never writes `IME` (D1, D2; logs 7, 8); `DI` clears `IME`
and a scheduled enable at once (D3, log 9); nothing else changes (R290, R291). -/
def Obligations.EnableAndDisableInterrupts : Prop :=
  ∀ s : State,
    (s.imePending = false → exec .ei s = .next { s with imePending := true, eiJust := true })
    ∧ (s.imePending = true → exec .ei s = .next s)
    ∧ exec .di s = .next { s with ime := false, imePending := false, eiJust := false }

/-! ## CB-prefixed operations -/

/-- The CB rotates, shifts and `SWAP` of a register or of the byte at `HL`: each bit comes from where R301 to R308 say,
`Z` from the result, `N` and `H` 0, `C` the bit moved out (0 for `SWAP`); a memory form does one store at `HL`;
nothing else changes (R300 to R308, G6; log 22). -/
def Obligations.CbRotatesAndShifts : Prop :=
  ∀ (s : State) (op : RotOp),
    (∀ r : Reg8, ∃ t, exec (.rot op (.reg r)) s = .next t
      ∧ t = { s.setReg r (t.reg r) with f := t.f }
      ∧ (∀ i, i < 8 → (t.reg r).getLsbD i = rotSource op (s.reg r) s.flagC i)
      ∧ FlagsAre t (decide (t.reg r = 0)) false false (rotMovedOut op (s.reg r))
      ∧ SameBytes s t)
    ∧ (∃ t v, exec (.rot op .atHl) s = .next t
      ∧ t = { s.writeByte s.hl v with f := t.f }
      ∧ (∀ i, i < 8 → v.getLsbD i = rotSource op (s.readByte s.hl) s.flagC i)
      ∧ FlagsAre t (decide (v = 0)) false false (rotMovedOut op (s.readByte s.hl))
      ∧ ReadsAsBefore s t s.hl)

/-- `BIT b,r`: "Z = ¬bit, N=0, H=1, C unaffected"; only the flags change, and the `(HL)` form writes nothing (R309). -/
def Obligations.CbBitTests : Prop :=
  ∀ (s : State) (b : BitNum) (o : Operand8), ∃ t, exec (.bit b o) s = .next t
    ∧ t = { s with f := t.f }
    ∧ FlagsAre t (!(s.readOperand o).getLsbD (bitIndex b)) false true s.flagC
    ∧ SameBytes s t

/-- One bit of a register is `x`, its other bits and everything else as before (R310, R311). -/
def RegisterBitBecomes (s : State) (r : Reg8) (b : BitNum) (x : Bool) (t : State) : Prop :=
  t = s.setReg r (t.reg r)
  ∧ (∀ i, i < 8 → (t.reg r).getLsbD i = if i = bitIndex b then x else (s.reg r).getLsbD i)
  ∧ (∀ q, q ≠ r → t.reg q = s.reg q) ∧ t.f = s.f ∧ SameBytes s t

/-- The byte at `HL` with one bit `x` and its other bits as read is stored at `HL`; nothing else changes (R310, R311). -/
def CellBitBecomes (s : State) (b : BitNum) (x : Bool) (t : State) : Prop :=
  ∃ v, StoreLeaves s s.hl v t
    ∧ ∀ i, i < 8 → v.getLsbD i = if i = bitIndex b then x else (s.readByte s.hl).getLsbD i

/-- `RES b,r` clears and `SET b,r` sets the one bit of the operand, "no flags"; the other bits, the other registers and
memory outside the one store of a `(HL)` form are unchanged (R300, R310, R311). -/
def Obligations.CbBitResetAndSet : Prop :=
  ∀ (s : State) (b : BitNum),
    (∀ r : Reg8, ∃ t, exec (.res b (.reg r)) s = .next t ∧ RegisterBitBecomes s r b false t)
    ∧ (∃ t, exec (.res b .atHl) s = .next t ∧ CellBitBecomes s b false t)
    ∧ (∀ r : Reg8, ∃ t, exec (.set b (.reg r)) s = .next t ∧ RegisterBitBecomes s r b true t)
    ∧ (∃ t, exec (.set b .atHl) s = .next t ∧ CellBitBecomes s b true t)
end

