-- ==== Sys2Proof/Laws/Bits.lean ====
section
/-! SUPPORT. The byte halves of a word, and sign extension, as numbers (R9, R12). -/

namespace Sys2Proof.Machine

theorem mkWord_toNat (hi lo : Byte) : (mkWord hi lo).toNat = hi.toNat * 256 + lo.toNat := by
  have h := lo.isLt
  rw [mkWord, BitVec.toNat_append, ← Nat.shiftLeft_add_eq_or_of_lt h, Nat.shiftLeft_eq]

theorem hiByte_toNat (v : Word) : (hiByte v).toNat = v.toNat / 256 := by
  have h := v.isLt
  simp only [hiByte, BitVec.extractLsb'_toNat, Nat.shiftRight_eq_div_pow]
  omega

theorem loByte_toNat (v : Word) : (loByte v).toNat = v.toNat % 256 := by
  simp only [loByte, BitVec.extractLsb'_toNat, Nat.shiftRight_zero]

@[simp] theorem mkWord_hi_lo (v : Word) : mkWord (hiByte v) (loByte v) = v := by
  apply BitVec.eq_of_toNat_eq
  rw [mkWord_toNat, hiByte_toNat, loByte_toNat]; omega

@[simp] theorem hiByte_mkWord (hi lo : Byte) : hiByte (mkWord hi lo) = hi := by
  apply BitVec.eq_of_toNat_eq
  have := lo.isLt
  rw [hiByte_toNat, mkWord_toNat]; omega

@[simp] theorem loByte_mkWord (hi lo : Byte) : loByte (mkWord hi lo) = lo := by
  apply BitVec.eq_of_toNat_eq
  have := lo.isLt
  rw [loByte_toNat, mkWord_toNat]; omega

/-- Bit 7 of a byte says whether it is at least 128. -/
theorem getLsbD_seven (e : Byte) : e.getLsbD 7 = decide (128 ≤ e.toNat) := by
  revert e; decide +kernel

/-- The sign-extended byte as a number modulo `2^16` (R12). -/
theorem sext16_toNat (e : Byte) : ((sext16 e).toNat : Int) = e.toInt % 65536 := by
  have := e.isLt
  unfold sext16
  rw [getLsbD_seven, BitVec.toInt_eq_toNat_cond]
  split <;> rename_i h <;> rw [decide_eq_true_eq] at h <;> rw [mkWord_toNat] <;> simp <;> split <;> omega

/-- A number with no bit in common with the number below it is a power of two (R8). -/
theorem power_of_and_pred (n : Nat) (hn : 1 ≤ n) (h : n &&& (n-1) = 0) : ∃ k, n = 2^k := by
  induction n using Nat.strong_induction_on with
  | _ n ih =>
    by_cases h1 : n = 1
    · exact ⟨0, h1⟩
    rcases Nat.even_or_odd' n with ⟨m, rfl | rfl⟩
    · have hm : m &&& (m-1) = 0 := by
        apply Nat.eq_of_testBit_eq; intro i
        have := congrArg (fun x => x.testBit (i+1)) h
        simp only [Nat.testBit_and, Nat.zero_testBit] at this ⊢
        rw [Nat.testBit_succ, Nat.testBit_succ] at this
        rw [show 2*m/2 = m by omega, show (2*m-1)/2 = m-1 by omega] at this
        exact this
      obtain ⟨k, hk⟩ := ih m (by omega) (by omega) hm
      exact ⟨k+1, by rw [pow_succ]; omega⟩
    · exfalso
      have hm : m = 0 := by
        apply Nat.eq_of_testBit_eq; intro i
        have := congrArg (fun x => x.testBit (i+1)) h
        simp only [Nat.testBit_and, Nat.zero_testBit] at this ⊢
        rw [Nat.testBit_succ, Nat.testBit_succ] at this
        rw [show (2*m+1)/2 = m by omega, show (2*m+1-1)/2 = m by omega] at this
        simpa using this
      omega

end Sys2Proof.Machine
end

