-- ==== Sys2Proof/Laws/CycleTable.lean ====
section
/-! SUPPORT. The table form of the parameter `CYCLES` loses nothing: every function is the meaning of a table. -/

namespace Sys2Proof.Machine

/-- The table of a function `CYCLES(op, op2, taken)` (R8). -/
def CycleTable.ofFunction (f : Byte → Byte → Bool → Nat) : CycleTable :=
  { notTaken := (List.range 256).map fun k => f (BitVec.ofNat 8 k) 0 false
    taken := (List.range 256).map fun k => f (BitVec.ofNat 8 k) 0 true
    prefixed := (List.range 256).map fun k => f 0xCB (BitVec.ofNat 8 k) false }

/-- A list built from a function of the byte values gives the function back. -/
theorem getD_map_bytes (g : Byte → Nat) (v : Byte) :
    ((List.range 256).map fun k => g (BitVec.ofNat 8 k)).getD v.toNat 0 = g v := by
  have h : v.toNat < 256 := v.isLt
  simp [List.getD, h]

/-- What the step can ask of a function, its table answers: `op2` matters only after `$CB`, `taken` only elsewhere. -/
theorem CycleTable.cycles_ofFunction (f : Byte → Byte → Bool → Nat) (op op2 : Byte) (isTaken : Bool) :
    (CycleTable.ofFunction f).cycles op op2 isTaken = if op = 0xCB then f 0xCB op2 false else f op 0 isTaken := by
  unfold CycleTable.cycles CycleTable.ofFunction
  cases isTaken <;> simp only [getD_map_bytes (f 0xCB · false), getD_map_bytes (f · 0 true),
    getD_map_bytes (f · 0 false), if_true, Bool.false_eq_true, if_false]

end Sys2Proof.Machine
end

