-- ==== Sys2Proof/Laws/Decode.lean ====
section
/-! SUPPORT. What the decoder and the encoder do with three bytes, said once for all opcodes. -/

namespace Sys2Proof

open Sys2Proof.Machine

/-- A CB operation is encoded as the prefix and its second byte. -/
theorem encode_decodeCB (b : Byte) : encode (decodeCB b) = [0xCB, b] := by revert b; decide +kernel

/-- The encoding of the instruction at three bytes is as many of them as the opcode's length. -/
theorem encode_instrOf (op b1 b2 : Byte) : encode (instrOf op b1 b2) = [op,b1,b2].take (opLength op) := by
  have hw : immBytes (mkWord b2 b1) = [b1, b2] := by simp [immBytes]
  have key : ∀ n, n < 256 → encode (instrOf (BitVec.ofNat 8 n) b1 b2) = [BitVec.ofNat 8 n,b1,b2].take (opLength (BitVec.ofNat 8 n)) := by
    intro n hn
    interval_cases n <;> first | rfl | exact congrArg (_ :: ·) hw | exact encode_decodeCB b1
  have := key op.toNat op.isLt
  simpa using this

/-- An instruction has 1, 2 or 3 bytes. -/
theorem opLength_cases (op : Byte) : opLength op = 1 ∨ opLength op = 2 ∨ opLength op = 3 := by
  revert op; decide +kernel

/-- Decoding three bytes or more. -/
theorem decode_three (op b1 b2 : Byte) (more : List Byte) : decode (op :: b1 :: b2 :: more) =
   .ok (instrOf op b1 b2, [op,b1,b2].drop (opLength op) ++ more) := by
  have key : ∀ n, n < 256 → decode (BitVec.ofNat 8 n :: b1 :: b2 :: more) =
   .ok (instrOf (BitVec.ofNat 8 n) b1 b2, [BitVec.ofNat 8 n,b1,b2].drop (opLength (BitVec.ofNat 8 n)) ++ more) := by
    intro n hn
    interval_cases n <;> rfl
  have := key op.toNat op.isLt
  simpa using this

end Sys2Proof
end

