-- ==== Sys2Proof/Laws/Families.lean ====
section
/-! SUPPORT. The 511 constructors as 24 families and 40 single rows: one case split over them, and what `exec` does
with each, in terms of the shared operations. -/

namespace Sys2Proof

/-- The case split over families. -/
theorem Instr.byFamily {P : Instr → Prop}
    (on_nop : P .nop)
    (on_ldPairD16 : ∀ (p : Reg16) (w : Word), P (.ldPairD16 p w))
    (on_ldAtBcA : P .ldAtBcA)
    (on_incPair : ∀ (p : Reg16), P (.incPair p))
    (on_incReg : ∀ (r : Reg8), P (.incReg r))
    (on_decReg : ∀ (r : Reg8), P (.decReg r))
    (on_ldRegD8 : ∀ (r : Reg8) (n : Byte), P (.ldRegD8 r n))
    (on_rlca : P .rlca)
    (on_ldAtA16Sp : ∀ w : Word, P (.ldAtA16Sp w))
    (on_addHlPair : ∀ (p : Reg16), P (.addHlPair p))
    (on_ldAAtBc : P .ldAAtBc)
    (on_decPair : ∀ (p : Reg16), P (.decPair p))
    (on_rrca : P .rrca)
    (on_stop : ∀ n : Byte, P (.stop n))
    (on_ldAtDeA : P .ldAtDeA)
    (on_rla : P .rla)
    (on_jrR8 : ∀ e : Byte, P (.jrR8 e))
    (on_ldAAtDe : P .ldAAtDe)
    (on_rra : P .rra)
    (on_jrCond : ∀ (cc : Cond) (n : Byte), P (.jrCond cc n))
    (on_ldAtHlIncA : P .ldAtHlIncA)
    (on_daa : P .daa)
    (on_ldAAtHlInc : P .ldAAtHlInc)
    (on_cpl : P .cpl)
    (on_ldAtHlDecA : P .ldAtHlDecA)
    (on_incAtHl : P .incAtHl)
    (on_decAtHl : P .decAtHl)
    (on_ldAtHlD8 : ∀ n : Byte, P (.ldAtHlD8 n))
    (on_scf : P .scf)
    (on_ldAAtHlDec : P .ldAAtHlDec)
    (on_ccf : P .ccf)
    (on_ldRegReg : ∀ (dst : Reg8) (src : Reg8), P (.ldRegReg dst src))
    (on_ldRegAtHl : ∀ (r : Reg8), P (.ldRegAtHl r))
    (on_ldAtHlReg : ∀ (r : Reg8), P (.ldAtHlReg r))
    (on_halt : P .halt)
    (on_alu : ∀ (op : AluOp) (o : Operand8), P (.alu op o))
    (on_retCond : ∀ (cc : Cond), P (.retCond cc))
    (on_pop : ∀ (p : StackPair), P (.pop p))
    (on_jpCond : ∀ (cc : Cond) (w : Word), P (.jpCond cc w))
    (on_jpA16 : ∀ w : Word, P (.jpA16 w))
    (on_callCond : ∀ (cc : Cond) (w : Word), P (.callCond cc w))
    (on_push : ∀ (p : StackPair), P (.push p))
    (on_aluD8 : ∀ (op : AluOp) (n : Byte), P (.aluD8 op n))
    (on_rst : ∀ (n : RstNum), P (.rst n))
    (on_ret : P .ret)
    (on_callA16 : ∀ w : Word, P (.callA16 w))
    (on_illegal : ∀ (k : IllegalOp), P (.illegal k))
    (on_reti : P .reti)
    (on_ldhAtA8A : ∀ n : Byte, P (.ldhAtA8A n))
    (on_ldAtCA : P .ldAtCA)
    (on_addSpR8 : ∀ e : Byte, P (.addSpR8 e))
    (on_jpHl : P .jpHl)
    (on_ldAtA16A : ∀ w : Word, P (.ldAtA16A w))
    (on_ldhAAtA8 : ∀ n : Byte, P (.ldhAAtA8 n))
    (on_ldAAtC : P .ldAAtC)
    (on_di : P .di)
    (on_ldHlSpR8 : ∀ e : Byte, P (.ldHlSpR8 e))
    (on_ldSpHl : P .ldSpHl)
    (on_ldAAtA16 : ∀ w : Word, P (.ldAAtA16 w))
    (on_ei : P .ei)
    (on_rot : ∀ (op : RotOp) (o : Operand8), P (.rot op o))
    (on_bit : ∀ (b : BitNum) (o : Operand8), P (.bit b o))
    (on_res : ∀ (b : BitNum) (o : Operand8), P (.res b o))
    (on_set : ∀ (b : BitNum) (o : Operand8), P (.set b o))
    (i : Instr) : P i := by
  cases i
  case ldBcD16 w => exact on_ldPairD16 .bc w
  case ldBD8 n => exact on_ldRegD8 .b n
  case ldAtA16Sp w => exact on_ldAtA16Sp w
  case ldCD8 n => exact on_ldRegD8 .c n
  case stop n => exact on_stop n
  case ldDeD16 w => exact on_ldPairD16 .de w
  case ldDD8 n => exact on_ldRegD8 .d n
  case jrR8 e => exact on_jrR8 e
  case ldED8 n => exact on_ldRegD8 .e n
  case jrNzR8 e => exact on_jrCond .nz e
  case ldHlD16 w => exact on_ldPairD16 .hl w
  case ldHD8 n => exact on_ldRegD8 .h n
  case jrZR8 e => exact on_jrCond .z e
  case ldLD8 n => exact on_ldRegD8 .l n
  case jrNcR8 e => exact on_jrCond .nc e
  case ldSpD16 w => exact on_ldPairD16 .sp w
  case ldAtHlD8 n => exact on_ldAtHlD8 n
  case jrCR8 e => exact on_jrCond .cy e
  case ldAD8 n => exact on_ldRegD8 .a n
  case jpNzA16 w => exact on_jpCond .nz w
  case jpA16 w => exact on_jpA16 w
  case callNzA16 w => exact on_callCond .nz w
  case addAD8 n => exact on_aluD8 .add n
  case jpZA16 w => exact on_jpCond .z w
  case callZA16 w => exact on_callCond .z w
  case callA16 w => exact on_callA16 w
  case adcAD8 n => exact on_aluD8 .adc n
  case jpNcA16 w => exact on_jpCond .nc w
  case callNcA16 w => exact on_callCond .nc w
  case subD8 n => exact on_aluD8 .sub n
  case jpCA16 w => exact on_jpCond .cy w
  case callCA16 w => exact on_callCond .cy w
  case sbcAD8 n => exact on_aluD8 .sbc n
  case ldhAtA8A n => exact on_ldhAtA8A n
  case andD8 n => exact on_aluD8 .and n
  case addSpR8 e => exact on_addSpR8 e
  case ldAtA16A w => exact on_ldAtA16A w
  case xorD8 n => exact on_aluD8 .xor n
  case ldhAAtA8 n => exact on_ldhAAtA8 n
  case orD8 n => exact on_aluD8 .or n
  case ldHlSpR8 e => exact on_ldHlSpR8 e
  case ldAAtA16 w => exact on_ldAAtA16 w
  case cpD8 n => exact on_aluD8 .cp n
  case nop => exact on_nop
  case ldAtBcA => exact on_ldAtBcA
  case incBc => exact on_incPair .bc
  case incB => exact on_incReg .b
  case decB => exact on_decReg .b
  case rlca => exact on_rlca
  case addHlBc => exact on_addHlPair .bc
  case ldAAtBc => exact on_ldAAtBc
  case decBc => exact on_decPair .bc
  case incC => exact on_incReg .c
  case decC => exact on_decReg .c
  case rrca => exact on_rrca
  case ldAtDeA => exact on_ldAtDeA
  case incDe => exact on_incPair .de
  case incD => exact on_incReg .d
  case decD => exact on_decReg .d
  case rla => exact on_rla
  case addHlDe => exact on_addHlPair .de
  case ldAAtDe => exact on_ldAAtDe
  case decDe => exact on_decPair .de
  case incE => exact on_incReg .e
  case decE => exact on_decReg .e
  case rra => exact on_rra
  case ldAtHlIncA => exact on_ldAtHlIncA
  case incHl => exact on_incPair .hl
  case incH => exact on_incReg .h
  case decH => exact on_decReg .h
  case daa => exact on_daa
  case addHlHl => exact on_addHlPair .hl
  case ldAAtHlInc => exact on_ldAAtHlInc
  case decHl => exact on_decPair .hl
  case incL => exact on_incReg .l
  case decL => exact on_decReg .l
  case cpl => exact on_cpl
  case ldAtHlDecA => exact on_ldAtHlDecA
  case incSp => exact on_incPair .sp
  case incAtHl => exact on_incAtHl
  case decAtHl => exact on_decAtHl
  case scf => exact on_scf
  case addHlSp => exact on_addHlPair .sp
  case ldAAtHlDec => exact on_ldAAtHlDec
  case decSp => exact on_decPair .sp
  case incA => exact on_incReg .a
  case decA => exact on_decReg .a
  case ccf => exact on_ccf
  case ldBB => exact on_ldRegReg .b .b
  case ldBC => exact on_ldRegReg .b .c
  case ldBD => exact on_ldRegReg .b .d
  case ldBE => exact on_ldRegReg .b .e
  case ldBH => exact on_ldRegReg .b .h
  case ldBL => exact on_ldRegReg .b .l
  case ldBAtHl => exact on_ldRegAtHl .b
  case ldBA => exact on_ldRegReg .b .a
  case ldCB => exact on_ldRegReg .c .b
  case ldCC => exact on_ldRegReg .c .c
  case ldCD => exact on_ldRegReg .c .d
  case ldCE => exact on_ldRegReg .c .e
  case ldCH => exact on_ldRegReg .c .h
  case ldCL => exact on_ldRegReg .c .l
  case ldCAtHl => exact on_ldRegAtHl .c
  case ldCA => exact on_ldRegReg .c .a
  case ldDB => exact on_ldRegReg .d .b
  case ldDC => exact on_ldRegReg .d .c
  case ldDD => exact on_ldRegReg .d .d
  case ldDE => exact on_ldRegReg .d .e
  case ldDH => exact on_ldRegReg .d .h
  case ldDL => exact on_ldRegReg .d .l
  case ldDAtHl => exact on_ldRegAtHl .d
  case ldDA => exact on_ldRegReg .d .a
  case ldEB => exact on_ldRegReg .e .b
  case ldEC => exact on_ldRegReg .e .c
  case ldED => exact on_ldRegReg .e .d
  case ldEE => exact on_ldRegReg .e .e
  case ldEH => exact on_ldRegReg .e .h
  case ldEL => exact on_ldRegReg .e .l
  case ldEAtHl => exact on_ldRegAtHl .e
  case ldEA => exact on_ldRegReg .e .a
  case ldHB => exact on_ldRegReg .h .b
  case ldHC => exact on_ldRegReg .h .c
  case ldHD => exact on_ldRegReg .h .d
  case ldHE => exact on_ldRegReg .h .e
  case ldHH => exact on_ldRegReg .h .h
  case ldHL => exact on_ldRegReg .h .l
  case ldHAtHl => exact on_ldRegAtHl .h
  case ldHA => exact on_ldRegReg .h .a
  case ldLB => exact on_ldRegReg .l .b
  case ldLC => exact on_ldRegReg .l .c
  case ldLD => exact on_ldRegReg .l .d
  case ldLE => exact on_ldRegReg .l .e
  case ldLH => exact on_ldRegReg .l .h
  case ldLL => exact on_ldRegReg .l .l
  case ldLAtHl => exact on_ldRegAtHl .l
  case ldLA => exact on_ldRegReg .l .a
  case ldAtHlB => exact on_ldAtHlReg .b
  case ldAtHlC => exact on_ldAtHlReg .c
  case ldAtHlD => exact on_ldAtHlReg .d
  case ldAtHlE => exact on_ldAtHlReg .e
  case ldAtHlH => exact on_ldAtHlReg .h
  case ldAtHlL => exact on_ldAtHlReg .l
  case halt => exact on_halt
  case ldAtHlA => exact on_ldAtHlReg .a
  case ldAB => exact on_ldRegReg .a .b
  case ldAC => exact on_ldRegReg .a .c
  case ldAD => exact on_ldRegReg .a .d
  case ldAE => exact on_ldRegReg .a .e
  case ldAH => exact on_ldRegReg .a .h
  case ldAL => exact on_ldRegReg .a .l
  case ldAAtHl => exact on_ldRegAtHl .a
  case ldAA => exact on_ldRegReg .a .a
  case addAB => exact on_alu .add (.reg .b)
  case addAC => exact on_alu .add (.reg .c)
  case addAD => exact on_alu .add (.reg .d)
  case addAE => exact on_alu .add (.reg .e)
  case addAH => exact on_alu .add (.reg .h)
  case addAL => exact on_alu .add (.reg .l)
  case addAAtHl => exact on_alu .add .atHl
  case addAA => exact on_alu .add (.reg .a)
  case adcAB => exact on_alu .adc (.reg .b)
  case adcAC => exact on_alu .adc (.reg .c)
  case adcAD => exact on_alu .adc (.reg .d)
  case adcAE => exact on_alu .adc (.reg .e)
  case adcAH => exact on_alu .adc (.reg .h)
  case adcAL => exact on_alu .adc (.reg .l)
  case adcAAtHl => exact on_alu .adc .atHl
  case adcAA => exact on_alu .adc (.reg .a)
  case subB => exact on_alu .sub (.reg .b)
  case subC => exact on_alu .sub (.reg .c)
  case subD => exact on_alu .sub (.reg .d)
  case subE => exact on_alu .sub (.reg .e)
  case subH => exact on_alu .sub (.reg .h)
  case subL => exact on_alu .sub (.reg .l)
  case subAtHl => exact on_alu .sub .atHl
  case subA => exact on_alu .sub (.reg .a)
  case sbcAB => exact on_alu .sbc (.reg .b)
  case sbcAC => exact on_alu .sbc (.reg .c)
  case sbcAD => exact on_alu .sbc (.reg .d)
  case sbcAE => exact on_alu .sbc (.reg .e)
  case sbcAH => exact on_alu .sbc (.reg .h)
  case sbcAL => exact on_alu .sbc (.reg .l)
  case sbcAAtHl => exact on_alu .sbc .atHl
  case sbcAA => exact on_alu .sbc (.reg .a)
  case andB => exact on_alu .and (.reg .b)
  case andC => exact on_alu .and (.reg .c)
  case andD => exact on_alu .and (.reg .d)
  case andE => exact on_alu .and (.reg .e)
  case andH => exact on_alu .and (.reg .h)
  case andL => exact on_alu .and (.reg .l)
  case andAtHl => exact on_alu .and .atHl
  case andA => exact on_alu .and (.reg .a)
  case xorB => exact on_alu .xor (.reg .b)
  case xorC => exact on_alu .xor (.reg .c)
  case xorD => exact on_alu .xor (.reg .d)
  case xorE => exact on_alu .xor (.reg .e)
  case xorH => exact on_alu .xor (.reg .h)
  case xorL => exact on_alu .xor (.reg .l)
  case xorAtHl => exact on_alu .xor .atHl
  case xorA => exact on_alu .xor (.reg .a)
  case orB => exact on_alu .or (.reg .b)
  case orC => exact on_alu .or (.reg .c)
  case orD => exact on_alu .or (.reg .d)
  case orE => exact on_alu .or (.reg .e)
  case orH => exact on_alu .or (.reg .h)
  case orL => exact on_alu .or (.reg .l)
  case orAtHl => exact on_alu .or .atHl
  case orA => exact on_alu .or (.reg .a)
  case cpB => exact on_alu .cp (.reg .b)
  case cpC => exact on_alu .cp (.reg .c)
  case cpD => exact on_alu .cp (.reg .d)
  case cpE => exact on_alu .cp (.reg .e)
  case cpH => exact on_alu .cp (.reg .h)
  case cpL => exact on_alu .cp (.reg .l)
  case cpAtHl => exact on_alu .cp .atHl
  case cpA => exact on_alu .cp (.reg .a)
  case retNz => exact on_retCond .nz
  case popBc => exact on_pop .bc
  case pushBc => exact on_push .bc
  case rst0 => exact on_rst .t0
  case retZ => exact on_retCond .z
  case ret => exact on_ret
  case rst1 => exact on_rst .t1
  case retNc => exact on_retCond .nc
  case popDe => exact on_pop .de
  case illegalD3 => exact on_illegal .d3
  case pushDe => exact on_push .de
  case rst2 => exact on_rst .t2
  case retC => exact on_retCond .cy
  case reti => exact on_reti
  case illegalDB => exact on_illegal .db
  case illegalDD => exact on_illegal .dd
  case rst3 => exact on_rst .t3
  case popHl => exact on_pop .hl
  case ldAtCA => exact on_ldAtCA
  case illegalE3 => exact on_illegal .e3
  case illegalE4 => exact on_illegal .e4
  case pushHl => exact on_push .hl
  case rst4 => exact on_rst .t4
  case jpHl => exact on_jpHl
  case illegalEB => exact on_illegal .eb
  case illegalEC => exact on_illegal .ec
  case illegalED => exact on_illegal .ed
  case rst5 => exact on_rst .t5
  case popAf => exact on_pop .af
  case ldAAtC => exact on_ldAAtC
  case di => exact on_di
  case illegalF4 => exact on_illegal .f4
  case pushAf => exact on_push .af
  case rst6 => exact on_rst .t6
  case ldSpHl => exact on_ldSpHl
  case ei => exact on_ei
  case illegalFC => exact on_illegal .fc
  case illegalFD => exact on_illegal .fd
  case rst7 => exact on_rst .t7
  case rlcB => exact on_rot .rlc (.reg .b)
  case rlcC => exact on_rot .rlc (.reg .c)
  case rlcD => exact on_rot .rlc (.reg .d)
  case rlcE => exact on_rot .rlc (.reg .e)
  case rlcH => exact on_rot .rlc (.reg .h)
  case rlcL => exact on_rot .rlc (.reg .l)
  case rlcAtHl => exact on_rot .rlc .atHl
  case rlcA => exact on_rot .rlc (.reg .a)
  case rrcB => exact on_rot .rrc (.reg .b)
  case rrcC => exact on_rot .rrc (.reg .c)
  case rrcD => exact on_rot .rrc (.reg .d)
  case rrcE => exact on_rot .rrc (.reg .e)
  case rrcH => exact on_rot .rrc (.reg .h)
  case rrcL => exact on_rot .rrc (.reg .l)
  case rrcAtHl => exact on_rot .rrc .atHl
  case rrcA => exact on_rot .rrc (.reg .a)
  case rlB => exact on_rot .rl (.reg .b)
  case rlC => exact on_rot .rl (.reg .c)
  case rlD => exact on_rot .rl (.reg .d)
  case rlE => exact on_rot .rl (.reg .e)
  case rlH => exact on_rot .rl (.reg .h)
  case rlL => exact on_rot .rl (.reg .l)
  case rlAtHl => exact on_rot .rl .atHl
  case rlA => exact on_rot .rl (.reg .a)
  case rrB => exact on_rot .rr (.reg .b)
  case rrC => exact on_rot .rr (.reg .c)
  case rrD => exact on_rot .rr (.reg .d)
  case rrE => exact on_rot .rr (.reg .e)
  case rrH => exact on_rot .rr (.reg .h)
  case rrL => exact on_rot .rr (.reg .l)
  case rrAtHl => exact on_rot .rr .atHl
  case rrA => exact on_rot .rr (.reg .a)
  case slaB => exact on_rot .sla (.reg .b)
  case slaC => exact on_rot .sla (.reg .c)
  case slaD => exact on_rot .sla (.reg .d)
  case slaE => exact on_rot .sla (.reg .e)
  case slaH => exact on_rot .sla (.reg .h)
  case slaL => exact on_rot .sla (.reg .l)
  case slaAtHl => exact on_rot .sla .atHl
  case slaA => exact on_rot .sla (.reg .a)
  case sraB => exact on_rot .sra (.reg .b)
  case sraC => exact on_rot .sra (.reg .c)
  case sraD => exact on_rot .sra (.reg .d)
  case sraE => exact on_rot .sra (.reg .e)
  case sraH => exact on_rot .sra (.reg .h)
  case sraL => exact on_rot .sra (.reg .l)
  case sraAtHl => exact on_rot .sra .atHl
  case sraA => exact on_rot .sra (.reg .a)
  case swapB => exact on_rot .swap (.reg .b)
  case swapC => exact on_rot .swap (.reg .c)
  case swapD => exact on_rot .swap (.reg .d)
  case swapE => exact on_rot .swap (.reg .e)
  case swapH => exact on_rot .swap (.reg .h)
  case swapL => exact on_rot .swap (.reg .l)
  case swapAtHl => exact on_rot .swap .atHl
  case swapA => exact on_rot .swap (.reg .a)
  case srlB => exact on_rot .srl (.reg .b)
  case srlC => exact on_rot .srl (.reg .c)
  case srlD => exact on_rot .srl (.reg .d)
  case srlE => exact on_rot .srl (.reg .e)
  case srlH => exact on_rot .srl (.reg .h)
  case srlL => exact on_rot .srl (.reg .l)
  case srlAtHl => exact on_rot .srl .atHl
  case srlA => exact on_rot .srl (.reg .a)
  case bit0B => exact on_bit .b0 (.reg .b)
  case bit0C => exact on_bit .b0 (.reg .c)
  case bit0D => exact on_bit .b0 (.reg .d)
  case bit0E => exact on_bit .b0 (.reg .e)
  case bit0H => exact on_bit .b0 (.reg .h)
  case bit0L => exact on_bit .b0 (.reg .l)
  case bit0AtHl => exact on_bit .b0 .atHl
  case bit0A => exact on_bit .b0 (.reg .a)
  case bit1B => exact on_bit .b1 (.reg .b)
  case bit1C => exact on_bit .b1 (.reg .c)
  case bit1D => exact on_bit .b1 (.reg .d)
  case bit1E => exact on_bit .b1 (.reg .e)
  case bit1H => exact on_bit .b1 (.reg .h)
  case bit1L => exact on_bit .b1 (.reg .l)
  case bit1AtHl => exact on_bit .b1 .atHl
  case bit1A => exact on_bit .b1 (.reg .a)
  case bit2B => exact on_bit .b2 (.reg .b)
  case bit2C => exact on_bit .b2 (.reg .c)
  case bit2D => exact on_bit .b2 (.reg .d)
  case bit2E => exact on_bit .b2 (.reg .e)
  case bit2H => exact on_bit .b2 (.reg .h)
  case bit2L => exact on_bit .b2 (.reg .l)
  case bit2AtHl => exact on_bit .b2 .atHl
  case bit2A => exact on_bit .b2 (.reg .a)
  case bit3B => exact on_bit .b3 (.reg .b)
  case bit3C => exact on_bit .b3 (.reg .c)
  case bit3D => exact on_bit .b3 (.reg .d)
  case bit3E => exact on_bit .b3 (.reg .e)
  case bit3H => exact on_bit .b3 (.reg .h)
  case bit3L => exact on_bit .b3 (.reg .l)
  case bit3AtHl => exact on_bit .b3 .atHl
  case bit3A => exact on_bit .b3 (.reg .a)
  case bit4B => exact on_bit .b4 (.reg .b)
  case bit4C => exact on_bit .b4 (.reg .c)
  case bit4D => exact on_bit .b4 (.reg .d)
  case bit4E => exact on_bit .b4 (.reg .e)
  case bit4H => exact on_bit .b4 (.reg .h)
  case bit4L => exact on_bit .b4 (.reg .l)
  case bit4AtHl => exact on_bit .b4 .atHl
  case bit4A => exact on_bit .b4 (.reg .a)
  case bit5B => exact on_bit .b5 (.reg .b)
  case bit5C => exact on_bit .b5 (.reg .c)
  case bit5D => exact on_bit .b5 (.reg .d)
  case bit5E => exact on_bit .b5 (.reg .e)
  case bit5H => exact on_bit .b5 (.reg .h)
  case bit5L => exact on_bit .b5 (.reg .l)
  case bit5AtHl => exact on_bit .b5 .atHl
  case bit5A => exact on_bit .b5 (.reg .a)
  case bit6B => exact on_bit .b6 (.reg .b)
  case bit6C => exact on_bit .b6 (.reg .c)
  case bit6D => exact on_bit .b6 (.reg .d)
  case bit6E => exact on_bit .b6 (.reg .e)
  case bit6H => exact on_bit .b6 (.reg .h)
  case bit6L => exact on_bit .b6 (.reg .l)
  case bit6AtHl => exact on_bit .b6 .atHl
  case bit6A => exact on_bit .b6 (.reg .a)
  case bit7B => exact on_bit .b7 (.reg .b)
  case bit7C => exact on_bit .b7 (.reg .c)
  case bit7D => exact on_bit .b7 (.reg .d)
  case bit7E => exact on_bit .b7 (.reg .e)
  case bit7H => exact on_bit .b7 (.reg .h)
  case bit7L => exact on_bit .b7 (.reg .l)
  case bit7AtHl => exact on_bit .b7 .atHl
  case bit7A => exact on_bit .b7 (.reg .a)
  case res0B => exact on_res .b0 (.reg .b)
  case res0C => exact on_res .b0 (.reg .c)
  case res0D => exact on_res .b0 (.reg .d)
  case res0E => exact on_res .b0 (.reg .e)
  case res0H => exact on_res .b0 (.reg .h)
  case res0L => exact on_res .b0 (.reg .l)
  case res0AtHl => exact on_res .b0 .atHl
  case res0A => exact on_res .b0 (.reg .a)
  case res1B => exact on_res .b1 (.reg .b)
  case res1C => exact on_res .b1 (.reg .c)
  case res1D => exact on_res .b1 (.reg .d)
  case res1E => exact on_res .b1 (.reg .e)
  case res1H => exact on_res .b1 (.reg .h)
  case res1L => exact on_res .b1 (.reg .l)
  case res1AtHl => exact on_res .b1 .atHl
  case res1A => exact on_res .b1 (.reg .a)
  case res2B => exact on_res .b2 (.reg .b)
  case res2C => exact on_res .b2 (.reg .c)
  case res2D => exact on_res .b2 (.reg .d)
  case res2E => exact on_res .b2 (.reg .e)
  case res2H => exact on_res .b2 (.reg .h)
  case res2L => exact on_res .b2 (.reg .l)
  case res2AtHl => exact on_res .b2 .atHl
  case res2A => exact on_res .b2 (.reg .a)
  case res3B => exact on_res .b3 (.reg .b)
  case res3C => exact on_res .b3 (.reg .c)
  case res3D => exact on_res .b3 (.reg .d)
  case res3E => exact on_res .b3 (.reg .e)
  case res3H => exact on_res .b3 (.reg .h)
  case res3L => exact on_res .b3 (.reg .l)
  case res3AtHl => exact on_res .b3 .atHl
  case res3A => exact on_res .b3 (.reg .a)
  case res4B => exact on_res .b4 (.reg .b)
  case res4C => exact on_res .b4 (.reg .c)
  case res4D => exact on_res .b4 (.reg .d)
  case res4E => exact on_res .b4 (.reg .e)
  case res4H => exact on_res .b4 (.reg .h)
  case res4L => exact on_res .b4 (.reg .l)
  case res4AtHl => exact on_res .b4 .atHl
  case res4A => exact on_res .b4 (.reg .a)
  case res5B => exact on_res .b5 (.reg .b)
  case res5C => exact on_res .b5 (.reg .c)
  case res5D => exact on_res .b5 (.reg .d)
  case res5E => exact on_res .b5 (.reg .e)
  case res5H => exact on_res .b5 (.reg .h)
  case res5L => exact on_res .b5 (.reg .l)
  case res5AtHl => exact on_res .b5 .atHl
  case res5A => exact on_res .b5 (.reg .a)
  case res6B => exact on_res .b6 (.reg .b)
  case res6C => exact on_res .b6 (.reg .c)
  case res6D => exact on_res .b6 (.reg .d)
  case res6E => exact on_res .b6 (.reg .e)
  case res6H => exact on_res .b6 (.reg .h)
  case res6L => exact on_res .b6 (.reg .l)
  case res6AtHl => exact on_res .b6 .atHl
  case res6A => exact on_res .b6 (.reg .a)
  case res7B => exact on_res .b7 (.reg .b)
  case res7C => exact on_res .b7 (.reg .c)
  case res7D => exact on_res .b7 (.reg .d)
  case res7E => exact on_res .b7 (.reg .e)
  case res7H => exact on_res .b7 (.reg .h)
  case res7L => exact on_res .b7 (.reg .l)
  case res7AtHl => exact on_res .b7 .atHl
  case res7A => exact on_res .b7 (.reg .a)
  case set0B => exact on_set .b0 (.reg .b)
  case set0C => exact on_set .b0 (.reg .c)
  case set0D => exact on_set .b0 (.reg .d)
  case set0E => exact on_set .b0 (.reg .e)
  case set0H => exact on_set .b0 (.reg .h)
  case set0L => exact on_set .b0 (.reg .l)
  case set0AtHl => exact on_set .b0 .atHl
  case set0A => exact on_set .b0 (.reg .a)
  case set1B => exact on_set .b1 (.reg .b)
  case set1C => exact on_set .b1 (.reg .c)
  case set1D => exact on_set .b1 (.reg .d)
  case set1E => exact on_set .b1 (.reg .e)
  case set1H => exact on_set .b1 (.reg .h)
  case set1L => exact on_set .b1 (.reg .l)
  case set1AtHl => exact on_set .b1 .atHl
  case set1A => exact on_set .b1 (.reg .a)
  case set2B => exact on_set .b2 (.reg .b)
  case set2C => exact on_set .b2 (.reg .c)
  case set2D => exact on_set .b2 (.reg .d)
  case set2E => exact on_set .b2 (.reg .e)
  case set2H => exact on_set .b2 (.reg .h)
  case set2L => exact on_set .b2 (.reg .l)
  case set2AtHl => exact on_set .b2 .atHl
  case set2A => exact on_set .b2 (.reg .a)
  case set3B => exact on_set .b3 (.reg .b)
  case set3C => exact on_set .b3 (.reg .c)
  case set3D => exact on_set .b3 (.reg .d)
  case set3E => exact on_set .b3 (.reg .e)
  case set3H => exact on_set .b3 (.reg .h)
  case set3L => exact on_set .b3 (.reg .l)
  case set3AtHl => exact on_set .b3 .atHl
  case set3A => exact on_set .b3 (.reg .a)
  case set4B => exact on_set .b4 (.reg .b)
  case set4C => exact on_set .b4 (.reg .c)
  case set4D => exact on_set .b4 (.reg .d)
  case set4E => exact on_set .b4 (.reg .e)
  case set4H => exact on_set .b4 (.reg .h)
  case set4L => exact on_set .b4 (.reg .l)
  case set4AtHl => exact on_set .b4 .atHl
  case set4A => exact on_set .b4 (.reg .a)
  case set5B => exact on_set .b5 (.reg .b)
  case set5C => exact on_set .b5 (.reg .c)
  case set5D => exact on_set .b5 (.reg .d)
  case set5E => exact on_set .b5 (.reg .e)
  case set5H => exact on_set .b5 (.reg .h)
  case set5L => exact on_set .b5 (.reg .l)
  case set5AtHl => exact on_set .b5 .atHl
  case set5A => exact on_set .b5 (.reg .a)
  case set6B => exact on_set .b6 (.reg .b)
  case set6C => exact on_set .b6 (.reg .c)
  case set6D => exact on_set .b6 (.reg .d)
  case set6E => exact on_set .b6 (.reg .e)
  case set6H => exact on_set .b6 (.reg .h)
  case set6L => exact on_set .b6 (.reg .l)
  case set6AtHl => exact on_set .b6 .atHl
  case set6A => exact on_set .b6 (.reg .a)
  case set7B => exact on_set .b7 (.reg .b)
  case set7C => exact on_set .b7 (.reg .c)
  case set7D => exact on_set .b7 (.reg .d)
  case set7E => exact on_set .b7 (.reg .e)
  case set7H => exact on_set .b7 (.reg .h)
  case set7L => exact on_set .b7 (.reg .l)
  case set7AtHl => exact on_set .b7 .atHl
  case set7A => exact on_set .b7 (.reg .a)

namespace Machine

theorem exec_nop (s : State) : exec .nop s = noEffect s := rfl

theorem exec_ldPairD16 (p : Reg16) (w : Word) (s : State) :
    exec (.ldPairD16 p w) s = loadPairImm p w s := by
  cases p <;> rfl

theorem exec_ldAtBcA (s : State) : exec .ldAtBcA s = storeAt s.bc s.a s := rfl

theorem exec_incPair (p : Reg16) (s : State) :
    exec (.incPair p) s = incPair p s := by
  cases p <;> rfl

theorem exec_incReg (r : Reg8) (s : State) :
    exec (.incReg r) s = incOperand (.reg r) s := by
  cases r <;> rfl

theorem exec_decReg (r : Reg8) (s : State) :
    exec (.decReg r) s = decOperand (.reg r) s := by
  cases r <;> rfl

theorem exec_ldRegD8 (r : Reg8) (n : Byte) (s : State) :
    exec (.ldRegD8 r n) s = loadRegImm r n s := by
  cases r <;> rfl

theorem exec_rlca (s : State) : exec .rlca s = rotateA .rlc s := rfl

theorem exec_ldAtA16Sp (w : Word) (s : State) : exec (.ldAtA16Sp w) s = storeSp w s := rfl

theorem exec_addHlPair (p : Reg16) (s : State) :
    exec (.addHlPair p) s = addHlPair p s := by
  cases p <;> rfl

theorem exec_ldAAtBc (s : State) : exec .ldAAtBc s = loadRegFrom .a s.bc s := rfl

theorem exec_decPair (p : Reg16) (s : State) :
    exec (.decPair p) s = decPair p s := by
  cases p <;> rfl

theorem exec_rrca (s : State) : exec .rrca s = rotateA .rrc s := rfl

theorem exec_stop (n : Byte) (s : State) : exec (.stop n) s = noEffect s := rfl

theorem exec_ldAtDeA (s : State) : exec .ldAtDeA s = storeAt s.de s.a s := rfl

theorem exec_rla (s : State) : exec .rla s = rotateA .rl s := rfl

theorem exec_jrR8 (e : Byte) (s : State) : exec (.jrR8 e) s = jumpTo (s.relative e) s := rfl

theorem exec_ldAAtDe (s : State) : exec .ldAAtDe s = loadRegFrom .a s.de s := rfl

theorem exec_rra (s : State) : exec .rra s = rotateA .rr s := rfl

theorem exec_jrCond (cc : Cond) (n : Byte) (s : State) :
    exec (.jrCond cc n) s = jumpIf cc (s.relative n) s := by
  cases cc <;> rfl

theorem exec_ldAtHlIncA (s : State) : exec .ldAtHlIncA s = storeAThenMoveHl 1 s := rfl

theorem exec_daa (s : State) : exec .daa s = decimalAdjust s := rfl

theorem exec_ldAAtHlInc (s : State) : exec .ldAAtHlInc s = loadAThenMoveHl 1 s := rfl

theorem exec_cpl (s : State) : exec .cpl s = complementA s := rfl

theorem exec_ldAtHlDecA (s : State) : exec .ldAtHlDecA s = storeAThenMoveHl (-1) s := rfl

theorem exec_incAtHl (s : State) : exec .incAtHl s = incOperand .atHl s := rfl

theorem exec_decAtHl (s : State) : exec .decAtHl s = decOperand .atHl s := rfl

theorem exec_ldAtHlD8 (n : Byte) (s : State) : exec (.ldAtHlD8 n) s = storeAt s.hl n s := rfl

theorem exec_scf (s : State) : exec .scf s = putCarry true s := rfl

theorem exec_ldAAtHlDec (s : State) : exec .ldAAtHlDec s = loadAThenMoveHl (-1) s := rfl

theorem exec_ccf (s : State) : exec .ccf s = putCarry (!s.flagC) s := rfl

theorem exec_ldRegReg (dst : Reg8) (src : Reg8) (s : State) :
    exec (.ldRegReg dst src) s = loadRegReg dst src s := by
  cases dst <;> cases src <;> rfl

theorem exec_ldRegAtHl (r : Reg8) (s : State) :
    exec (.ldRegAtHl r) s = loadRegFrom r s.hl s := by
  cases r <;> rfl

theorem exec_ldAtHlReg (r : Reg8) (s : State) :
    exec (.ldAtHlReg r) s = storeAt s.hl (s.reg r) s := by
  cases r <;> rfl

theorem exec_halt (s : State) : exec .halt s = enterHalt s := rfl

theorem exec_alu (op : AluOp) (o : Operand8) (s : State) :
    exec (.alu op o) s = aluOperand op o s := by
  cases op <;> (rcases o with ⟨r⟩ | _ <;> [cases r; skip]) <;> rfl

theorem exec_retCond (cc : Cond) (s : State) :
    exec (.retCond cc) s = returnIf cc s := by
  cases cc <;> rfl

theorem exec_pop (p : StackPair) (s : State) :
    exec (.pop p) s = popPair p s := by
  cases p <;> rfl

theorem exec_jpCond (cc : Cond) (w : Word) (s : State) :
    exec (.jpCond cc w) s = jumpIf cc w s := by
  cases cc <;> rfl

theorem exec_jpA16 (w : Word) (s : State) : exec (.jpA16 w) s = jumpTo w s := rfl

theorem exec_callCond (cc : Cond) (w : Word) (s : State) :
    exec (.callCond cc w) s = callIf cc w s := by
  cases cc <;> rfl

theorem exec_push (p : StackPair) (s : State) :
    exec (.push p) s = pushPair p s := by
  cases p <;> rfl

theorem exec_aluD8 (op : AluOp) (n : Byte) (s : State) :
    exec (.aluD8 op n) s = aluValue op n s := by
  cases op <;> rfl

theorem exec_rst (n : RstNum) (s : State) :
    exec (.rst n) s = callTo (rstTarget n) s := by
  cases n <;> rfl

theorem exec_ret (s : State) : exec .ret s = returnCall s := rfl

theorem exec_callA16 (w : Word) (s : State) : exec (.callA16 w) s = callTo w s := rfl

theorem exec_illegal (k : IllegalOp) (s : State) :
    exec (.illegal k) s = illegalOpcode k.byte s := by
  cases k <;> rfl

theorem exec_reti (s : State) : exec .reti s = returnInterrupt s := rfl

theorem exec_ldhAtA8A (n : Byte) (s : State) : exec (.ldhAtA8A n) s = storeAt (highPage n) s.a s := rfl

theorem exec_ldAtCA (s : State) : exec .ldAtCA s = storeAt (highPage s.c) s.a s := rfl

theorem exec_addSpR8 (e : Byte) (s : State) : exec (.addSpR8 e) s = addSpImm e s := rfl

theorem exec_jpHl (s : State) : exec .jpHl s = jumpTo s.hl s := rfl

theorem exec_ldAtA16A (w : Word) (s : State) : exec (.ldAtA16A w) s = storeAt w s.a s := rfl

theorem exec_ldhAAtA8 (n : Byte) (s : State) : exec (.ldhAAtA8 n) s = loadRegFrom .a (highPage n) s := rfl

theorem exec_ldAAtC (s : State) : exec .ldAAtC s = loadRegFrom .a (highPage s.c) s := rfl

theorem exec_di (s : State) : exec .di s = disableNow s := rfl

theorem exec_ldHlSpR8 (e : Byte) (s : State) : exec (.ldHlSpR8 e) s = loadHlSpOffset e s := rfl

theorem exec_ldSpHl (s : State) : exec .ldSpHl s = loadSpHl s := rfl

theorem exec_ldAAtA16 (w : Word) (s : State) : exec (.ldAAtA16 w) s = loadRegFrom .a w s := rfl

theorem exec_ei (s : State) : exec .ei s = enableLater s := rfl

theorem exec_rot (op : RotOp) (o : Operand8) (s : State) :
    exec (.rot op o) s = rotateOperand op o s := by
  cases op <;> (rcases o with ⟨r⟩ | _ <;> [cases r; skip]) <;> rfl

theorem exec_bit (b : BitNum) (o : Operand8) (s : State) :
    exec (.bit b o) s = testBit b o s := by
  cases b <;> (rcases o with ⟨r⟩ | _ <;> [cases r; skip]) <;> rfl

theorem exec_res (b : BitNum) (o : Operand8) (s : State) :
    exec (.res b o) s = clearBit b o s := by
  cases b <;> (rcases o with ⟨r⟩ | _ <;> [cases r; skip]) <;> rfl

theorem exec_set (b : BitNum) (o : Operand8) (s : State) :
    exec (.set b o) s = assignBit b o s := by
  cases b <;> (rcases o with ⟨r⟩ | _ <;> [cases r; skip]) <;> rfl

end Machine
end Sys2Proof
end

