-- ==== Sys2Proof/Laws/Memory.lean ====
section
/-! SUPPORT. The laws of an array of cells: a read after a write (of every list, canonical or not), that a write keeps
the canonical form, and that canonical arrays which read the same are the same. -/

namespace Sys2Proof.Machine

@[simp] theorem Memory.read_nil (dflt : Byte) (k : Nat) : Memory.read dflt [] k = dflt := rfl

@[simp] theorem Memory.read_cons (dflt : Byte) (j : Nat) (u : Byte) (m : Memory) (k : Nat) :
    Memory.read dflt ((j, u) :: m) k = if k = j then u else Memory.read dflt m k := rfl

/-- Removing an entry makes its index read as unlisted, and leaves every other index. -/
theorem Memory.read_without (dflt : Byte) (m : Memory) (k j : Nat) :
    Memory.read dflt (m.without k) j = if j = k then dflt else Memory.read dflt m j := by
  induction m with
  | nil => simp [Memory.without]
  | cons cell rest ih =>
    obtain ⟨i, u⟩ := cell
    unfold Memory.without
    split
    · rw [ih, Memory.read_cons]; split <;> simp_all
    · rw [Memory.read_cons, Memory.read_cons, ih]; split <;> split <;> simp_all

/-- Inserting an entry at an index that is not listed. -/
theorem Memory.read_insertCell (dflt : Byte) (m : Memory) (k j : Nat) (v : Byte) :
    Memory.read dflt ((m.without k).insertCell k v) j = if j = k then v else Memory.read dflt m j := by
  induction m with
  | nil => simp [Memory.without, Memory.insertCell]
  | cons cell rest ih =>
    obtain ⟨i, u⟩ := cell
    unfold Memory.without
    split
    · rw [ih, Memory.read_cons]; split <;> simp_all
    · unfold Memory.insertCell
      split
      · have h := Memory.read_without dflt rest k j
        simp only [Memory.read_cons, h]
        split <;> simp_all
      · simp only [Memory.read_cons, ih]
        split <;> split <;> simp_all

/-- A read after a write: the byte written at its index, the old byte elsewhere. -/
theorem Memory.read_write (dflt : Byte) (m : Memory) (k j : Nat) (v : Byte) :
    Memory.read dflt (Memory.write dflt m k v) j = if j = k then v else Memory.read dflt m j := by
  unfold Memory.write
  split
  · rename_i h; rw [Memory.read_without, h]
  · exact Memory.read_insertCell dflt m k j v

@[simp] theorem Memory.read_write_same (dflt : Byte) (m : Memory) (k : Nat) (v : Byte) :
    Memory.read dflt (Memory.write dflt m k v) k = v := by simp [Memory.read_write]

theorem Memory.read_write_other (dflt : Byte) (m : Memory) (k j : Nat) (v : Byte) (h : j ≠ k) :
    Memory.read dflt (Memory.write dflt m k v) j = Memory.read dflt m j := by simp [Memory.read_write, h]

/-! The canonical form. -/

theorem Memory.wfFrom_cons (dflt : Byte) (size lo j : Nat) (v : Byte) (m : Memory) :
    Memory.wfFrom dflt size lo ((j, v) :: m) = true ↔
      lo ≤ j ∧ j < size ∧ v ≠ dflt ∧ Memory.wfFrom dflt size (j + 1) m = true := by
  simp [Memory.wfFrom, and_assoc]

@[simp] theorem Memory.wf_nil (dflt : Byte) (size : Nat) : Memory.wf dflt size [] = true := rfl

/-- A canonical list may be read from a lower index on. -/
theorem Memory.wfFrom_mono (dflt : Byte) (size lo lo' : Nat) (m : Memory) (h : lo' ≤ lo)
    (hm : Memory.wfFrom dflt size lo m = true) : Memory.wfFrom dflt size lo' m = true := by
  cases m with
  | nil => rfl
  | cons cell rest =>
    obtain ⟨j, v⟩ := cell
    rw [Memory.wfFrom_cons] at hm ⊢
    exact ⟨by omega, hm.2⟩

/-- An array canonical for a size is canonical for a greater one. -/
theorem Memory.wfFrom_size (dflt : Byte) (size size' lo : Nat) (m : Memory) (h : size ≤ size')
    (hm : Memory.wfFrom dflt size lo m = true) : Memory.wfFrom dflt size' lo m = true := by
  induction m generalizing lo with
  | nil => rfl
  | cons cell rest ih =>
    obtain ⟨j, v⟩ := cell
    rw [Memory.wfFrom_cons] at hm ⊢
    exact ⟨hm.1, by omega, hm.2.2.1, ih _ hm.2.2.2⟩

/-- Indexes below the first and from the size on are not listed. -/
theorem Memory.read_unlisted (dflt : Byte) (size lo : Nat) (m : Memory) (k : Nat)
    (hm : Memory.wfFrom dflt size lo m = true) (h : k < lo ∨ size ≤ k) : Memory.read dflt m k = dflt := by
  induction m generalizing lo with
  | nil => rfl
  | cons cell rest ih =>
    obtain ⟨j, v⟩ := cell
    rw [Memory.wfFrom_cons] at hm
    rw [Memory.read_cons, if_neg (by omega)]
    exact ih _ hm.2.2.2 (by omega)

theorem Memory.wfFrom_without (dflt : Byte) (size lo : Nat) (m : Memory) (k : Nat)
    (hm : Memory.wfFrom dflt size lo m = true) : Memory.wfFrom dflt size lo (m.without k) = true := by
  induction m generalizing lo with
  | nil => rfl
  | cons cell rest ih =>
    obtain ⟨j, v⟩ := cell
    rw [Memory.wfFrom_cons] at hm
    unfold Memory.without
    split
    · exact Memory.wfFrom_mono _ _ _ _ _ (by omega) (ih _ hm.2.2.2)
    · rw [Memory.wfFrom_cons]
      exact ⟨hm.1, hm.2.1, hm.2.2.1, ih _ hm.2.2.2⟩

theorem Memory.wfFrom_insertCell (dflt : Byte) (size lo : Nat) (m : Memory) (k : Nat) (v : Byte)
    (hm : Memory.wfFrom dflt size lo m = true) (hk : lo ≤ k) (hs : k < size) (hv : v ≠ dflt) :
    Memory.wfFrom dflt size lo ((m.without k).insertCell k v) = true := by
  induction m generalizing lo with
  | nil =>
    simp only [Memory.without, Memory.insertCell, Memory.wfFrom_cons]
    exact ⟨hk, hs, hv, rfl⟩
  | cons cell rest ih =>
    obtain ⟨j, u⟩ := cell
    rw [Memory.wfFrom_cons] at hm
    unfold Memory.without
    split
    · exact ih _ (Memory.wfFrom_mono _ _ _ _ _ (by omega) hm.2.2.2) hk
    · unfold Memory.insertCell
      split
      · rw [Memory.wfFrom_cons, Memory.wfFrom_cons]
        exact ⟨hk, hs, hv, by omega, hm.2.1, hm.2.2.1, Memory.wfFrom_without _ _ _ _ _ hm.2.2.2⟩
      · rw [Memory.wfFrom_cons]
        exact ⟨hm.1, hm.2.1, hm.2.2.1, ih _ hm.2.2.2 (by omega)⟩

/-- A write inside the array keeps the canonical form. -/
theorem Memory.wf_write (dflt : Byte) (size : Nat) (m : Memory) (k : Nat) (v : Byte)
    (hm : Memory.wf dflt size m = true) (hk : k < size) : Memory.wf dflt size (Memory.write dflt m k v) = true := by
  unfold Memory.wf Memory.write at *
  split
  · exact Memory.wfFrom_without _ _ _ _ _ hm
  · exact Memory.wfFrom_insertCell _ _ _ _ _ _ hm (Nat.zero_le _) hk ‹_›

/-- Canonical arrays that read the same are the same list. -/
theorem Memory.wfFrom_ext (dflt : Byte) (size lo : Nat) (m n : Memory)
    (hm : Memory.wfFrom dflt size lo m = true) (hn : Memory.wfFrom dflt size lo n = true)
    (h : ∀ k, Memory.read dflt m k = Memory.read dflt n k) : m = n := by
  induction m generalizing lo n with
  | nil =>
    cases n with
    | nil => rfl
    | cons cell rest =>
      obtain ⟨j, v⟩ := cell
      rw [Memory.wfFrom_cons] at hn
      have hj := h j
      simp only [Memory.read_nil, Memory.read_cons, if_true] at hj
      exact absurd hj.symm hn.2.2.1
  | cons cell rest ih =>
    obtain ⟨i, u⟩ := cell
    rw [Memory.wfFrom_cons] at hm
    cases n with
    | nil =>
      have hi := h i
      simp only [Memory.read_nil, Memory.read_cons, if_true] at hi
      exact absurd hi hm.2.2.1
    | cons cell' rest' =>
      obtain ⟨j, v⟩ := cell'
      rw [Memory.wfFrom_cons] at hn
      have hij : i = j := by
        rcases Nat.lt_trichotomy i j with hlt | heq | hgt
        · have hi := h i
          rw [Memory.read_cons, if_pos rfl, Memory.read_cons, if_neg (by omega),
            Memory.read_unlisted _ _ _ _ _ hn.2.2.2 (by omega)] at hi
          exact absurd hi hm.2.2.1
        · exact heq
        · have hj := h j
          rw [Memory.read_cons, if_neg (by omega), Memory.read_unlisted _ _ _ _ _ hm.2.2.2 (by omega),
            Memory.read_cons, if_pos rfl] at hj
          exact absurd hj.symm hn.2.2.1
      subst hij
      have huv : u = v := by
        have hi := h i
        simpa only [Memory.read_cons, if_true] using hi
      subst huv
      congr 1
      refine ih _ _ hm.2.2.2 hn.2.2.2 (fun k => ?_)
      by_cases hk : k = i
      · rw [Memory.read_unlisted _ _ _ _ _ hm.2.2.2 (by omega), Memory.read_unlisted _ _ _ _ _ hn.2.2.2 (by omega)]
      · have := h k
        simpa only [Memory.read_cons, if_neg hk] using this

theorem Memory.wf_ext (dflt : Byte) (size : Nat) (m n : Memory)
    (hm : Memory.wf dflt size m = true) (hn : Memory.wf dflt size n = true)
    (h : ∀ k, Memory.read dflt m k = Memory.read dflt n k) : m = n := Memory.wfFrom_ext dflt size 0 m n hm hn h

/-- Writing what is there changes nothing, in a canonical array. -/
theorem Memory.write_read (dflt : Byte) (size : Nat) (m : Memory) (k : Nat)
    (hm : Memory.wf dflt size m = true) (hk : k < size) :
    Memory.write dflt m k (Memory.read dflt m k) = m := by
  refine Memory.wf_ext dflt size _ _ (Memory.wf_write _ _ _ _ _ hm hk) hm (fun j => ?_)
  rw [Memory.read_write]
  split
  · rename_i h; rw [h]
  · rfl

/-! The array of a list of bytes. -/

theorem Memory.wfFrom_ofBytes (dflt : Byte) (size k : Nat) (bytes : List Byte) (h : k + bytes.length ≤ size) :
    Memory.wfFrom dflt size k (Memory.ofBytes dflt k bytes) = true := by
  induction bytes generalizing k with
  | nil => rfl
  | cons v rest ih =>
    rw [List.length_cons] at h
    unfold Memory.ofBytes
    split
    · exact Memory.wfFrom_mono _ _ _ _ _ (Nat.le_succ k) (ih (k + 1) (by omega))
    · rw [Memory.wfFrom_cons]
      exact ⟨le_refl _, by omega, ‹_›, ih (k + 1) (by omega)⟩

theorem Memory.read_ofBytes (dflt : Byte) (k : Nat) (bytes : List Byte) (i : Nat) :
    Memory.read dflt (Memory.ofBytes dflt k bytes) (k + i) = (bytes[i]?).getD dflt := by
  induction bytes generalizing k i with
  | nil => simp [Memory.ofBytes]
  | cons v rest ih =>
    have low : Memory.read dflt (Memory.ofBytes dflt (k + 1) rest) k = dflt :=
      Memory.read_unlisted _ (k + 1 + rest.length) _ _ _
        (Memory.wfFrom_ofBytes dflt (k + 1 + rest.length) (k + 1) rest (le_refl _)) (Or.inl (Nat.lt_succ_self k))
    have high : ∀ i, Memory.read dflt (Memory.ofBytes dflt (k + 1) rest) (k + (i + 1)) = (rest[i]?).getD dflt := by
      intro i; rw [show k + (i + 1) = k + 1 + i by omega]; exact ih (k + 1) i
    unfold Memory.ofBytes
    cases i with
    | zero => split <;> simp_all
    | succ i =>
      split
      · simpa using high i
      · rw [Memory.read_cons, if_neg (by omega)]; simpa using high i

end Sys2Proof.Machine
end

