-- ==== Sys2Proof/Laws/State.lean ====
section
/-! SUPPORT. One lemma per field and update: what each named update of the state leaves alone, and what it writes. -/

namespace Sys2Proof.Machine

/-! `setReg`: the registers one by one are `reg_setReg`. -/

@[simp] theorem State.setReg_f (s : State) (r : Reg8) (v : Byte) :
    (s.setReg r v).f = s.f := by cases r <;> rfl

@[simp] theorem State.setReg_sp (s : State) (r : Reg8) (v : Byte) :
    (s.setReg r v).sp = s.sp := by cases r <;> rfl

@[simp] theorem State.setReg_pc (s : State) (r : Reg8) (v : Byte) :
    (s.setReg r v).pc = s.pc := by cases r <;> rfl

@[simp] theorem State.setReg_ime (s : State) (r : Reg8) (v : Byte) :
    (s.setReg r v).ime = s.ime := by cases r <;> rfl

@[simp] theorem State.setReg_imePending (s : State) (r : Reg8) (v : Byte) :
    (s.setReg r v).imePending = s.imePending := by cases r <;> rfl

@[simp] theorem State.setReg_eiJust (s : State) (r : Reg8) (v : Byte) :
    (s.setReg r v).eiJust = s.eiJust := by cases r <;> rfl

@[simp] theorem State.setReg_halted (s : State) (r : Reg8) (v : Byte) :
    (s.setReg r v).halted = s.halted := by cases r <;> rfl

@[simp] theorem State.setReg_cycles (s : State) (r : Reg8) (v : Byte) :
    (s.setReg r v).cycles = s.cycles := by cases r <;> rfl

@[simp] theorem State.setReg_faultLatch (s : State) (r : Reg8) (v : Byte) :
    (s.setReg r v).faultLatch = s.faultLatch := by cases r <;> rfl

@[simp] theorem State.setReg_vram (s : State) (r : Reg8) (v : Byte) :
    (s.setReg r v).vram = s.vram := by cases r <;> rfl

@[simp] theorem State.setReg_cartRam (s : State) (r : Reg8) (v : Byte) :
    (s.setReg r v).cartRam = s.cartRam := by cases r <;> rfl

@[simp] theorem State.setReg_wram (s : State) (r : Reg8) (v : Byte) :
    (s.setReg r v).wram = s.wram := by cases r <;> rfl

@[simp] theorem State.setReg_oam (s : State) (r : Reg8) (v : Byte) :
    (s.setReg r v).oam = s.oam := by cases r <;> rfl

@[simp] theorem State.setReg_io (s : State) (r : Reg8) (v : Byte) :
    (s.setReg r v).io = s.io := by cases r <;> rfl

@[simp] theorem State.setReg_hram (s : State) (r : Reg8) (v : Byte) :
    (s.setReg r v).hram = s.hram := by cases r <;> rfl

@[simp] theorem State.setReg_ie (s : State) (r : Reg8) (v : Byte) :
    (s.setReg r v).ie = s.ie := by cases r <;> rfl

@[simp] theorem State.setReg_ramEnable (s : State) (r : Reg8) (v : Byte) :
    (s.setReg r v).ramEnable = s.ramEnable := by cases r <;> rfl

@[simp] theorem State.setReg_romBankLow5 (s : State) (r : Reg8) (v : Byte) :
    (s.setReg r v).romBankLow5 = s.romBankLow5 := by cases r <;> rfl

@[simp] theorem State.setReg_romBankHigh2 (s : State) (r : Reg8) (v : Byte) :
    (s.setReg r v).romBankHigh2 = s.romBankHigh2 := by cases r <;> rfl

@[simp] theorem State.setReg_bankingMode (s : State) (r : Reg8) (v : Byte) :
    (s.setReg r v).bankingMode = s.bankingMode := by cases r <;> rfl

@[simp] theorem State.setReg_rom (s : State) (r : Reg8) (v : Byte) :
    (s.setReg r v).rom = s.rom := by cases r <;> rfl

@[simp] theorem State.setReg_romLen (s : State) (r : Reg8) (v : Byte) :
    (s.setReg r v).romLen = s.romLen := by cases r <;> rfl

@[simp] theorem State.setReg_romBanks (s : State) (r : Reg8) (v : Byte) :
    (s.setReg r v).romBanks = s.romBanks := by cases r <;> rfl

@[simp] theorem State.setReg_cycleTable (s : State) (r : Reg8) (v : Byte) :
    (s.setReg r v).cycleTable = s.cycleTable := by cases r <;> rfl

@[simp] theorem State.reg_setReg_same (s : State) (r : Reg8) (v : Byte) : (s.setReg r v).reg r = v := by
  cases r <;> rfl

theorem State.reg_setReg_other (s : State) (r q : Reg8) (v : Byte) (h : q ≠ r) : (s.setReg r v).reg q = s.reg q := by
  cases r <;> cases q <;> first | rfl | exact absurd rfl h

/-! `setF`, `setFlags`. -/

@[simp] theorem State.setF_a (s : State) (v : Byte) :
    (s.setF v).a = s.a := rfl

@[simp] theorem State.setF_b (s : State) (v : Byte) :
    (s.setF v).b = s.b := rfl

@[simp] theorem State.setF_c (s : State) (v : Byte) :
    (s.setF v).c = s.c := rfl

@[simp] theorem State.setF_d (s : State) (v : Byte) :
    (s.setF v).d = s.d := rfl

@[simp] theorem State.setF_e (s : State) (v : Byte) :
    (s.setF v).e = s.e := rfl

@[simp] theorem State.setF_h (s : State) (v : Byte) :
    (s.setF v).h = s.h := rfl

@[simp] theorem State.setF_l (s : State) (v : Byte) :
    (s.setF v).l = s.l := rfl

@[simp] theorem State.setF_sp (s : State) (v : Byte) :
    (s.setF v).sp = s.sp := rfl

@[simp] theorem State.setF_pc (s : State) (v : Byte) :
    (s.setF v).pc = s.pc := rfl

@[simp] theorem State.setF_ime (s : State) (v : Byte) :
    (s.setF v).ime = s.ime := rfl

@[simp] theorem State.setF_imePending (s : State) (v : Byte) :
    (s.setF v).imePending = s.imePending := rfl

@[simp] theorem State.setF_eiJust (s : State) (v : Byte) :
    (s.setF v).eiJust = s.eiJust := rfl

@[simp] theorem State.setF_halted (s : State) (v : Byte) :
    (s.setF v).halted = s.halted := rfl

@[simp] theorem State.setF_cycles (s : State) (v : Byte) :
    (s.setF v).cycles = s.cycles := rfl

@[simp] theorem State.setF_faultLatch (s : State) (v : Byte) :
    (s.setF v).faultLatch = s.faultLatch := rfl

@[simp] theorem State.setF_vram (s : State) (v : Byte) :
    (s.setF v).vram = s.vram := rfl

@[simp] theorem State.setF_cartRam (s : State) (v : Byte) :
    (s.setF v).cartRam = s.cartRam := rfl

@[simp] theorem State.setF_wram (s : State) (v : Byte) :
    (s.setF v).wram = s.wram := rfl

@[simp] theorem State.setF_oam (s : State) (v : Byte) :
    (s.setF v).oam = s.oam := rfl

@[simp] theorem State.setF_io (s : State) (v : Byte) :
    (s.setF v).io = s.io := rfl

@[simp] theorem State.setF_hram (s : State) (v : Byte) :
    (s.setF v).hram = s.hram := rfl

@[simp] theorem State.setF_ie (s : State) (v : Byte) :
    (s.setF v).ie = s.ie := rfl

@[simp] theorem State.setF_ramEnable (s : State) (v : Byte) :
    (s.setF v).ramEnable = s.ramEnable := rfl

@[simp] theorem State.setF_romBankLow5 (s : State) (v : Byte) :
    (s.setF v).romBankLow5 = s.romBankLow5 := rfl

@[simp] theorem State.setF_romBankHigh2 (s : State) (v : Byte) :
    (s.setF v).romBankHigh2 = s.romBankHigh2 := rfl

@[simp] theorem State.setF_bankingMode (s : State) (v : Byte) :
    (s.setF v).bankingMode = s.bankingMode := rfl

@[simp] theorem State.setF_rom (s : State) (v : Byte) :
    (s.setF v).rom = s.rom := rfl

@[simp] theorem State.setF_romLen (s : State) (v : Byte) :
    (s.setF v).romLen = s.romLen := rfl

@[simp] theorem State.setF_romBanks (s : State) (v : Byte) :
    (s.setF v).romBanks = s.romBanks := rfl

@[simp] theorem State.setF_cycleTable (s : State) (v : Byte) :
    (s.setF v).cycleTable = s.cycleTable := rfl

@[simp] theorem State.setF_f (s : State) (v : Byte) :
    (s.setF v).f = v &&& 0xF0 := rfl

@[simp] theorem State.setFlags_a (s : State) (z n h c : Bool) :
    (s.setFlags z n h c).a = s.a := rfl

@[simp] theorem State.setFlags_b (s : State) (z n h c : Bool) :
    (s.setFlags z n h c).b = s.b := rfl

@[simp] theorem State.setFlags_c (s : State) (z n h c : Bool) :
    (s.setFlags z n h c).c = s.c := rfl

@[simp] theorem State.setFlags_d (s : State) (z n h c : Bool) :
    (s.setFlags z n h c).d = s.d := rfl

@[simp] theorem State.setFlags_e (s : State) (z n h c : Bool) :
    (s.setFlags z n h c).e = s.e := rfl

@[simp] theorem State.setFlags_h (s : State) (z n h c : Bool) :
    (s.setFlags z n h c).h = s.h := rfl

@[simp] theorem State.setFlags_l (s : State) (z n h c : Bool) :
    (s.setFlags z n h c).l = s.l := rfl

@[simp] theorem State.setFlags_sp (s : State) (z n h c : Bool) :
    (s.setFlags z n h c).sp = s.sp := rfl

@[simp] theorem State.setFlags_pc (s : State) (z n h c : Bool) :
    (s.setFlags z n h c).pc = s.pc := rfl

@[simp] theorem State.setFlags_ime (s : State) (z n h c : Bool) :
    (s.setFlags z n h c).ime = s.ime := rfl

@[simp] theorem State.setFlags_imePending (s : State) (z n h c : Bool) :
    (s.setFlags z n h c).imePending = s.imePending := rfl

@[simp] theorem State.setFlags_eiJust (s : State) (z n h c : Bool) :
    (s.setFlags z n h c).eiJust = s.eiJust := rfl

@[simp] theorem State.setFlags_halted (s : State) (z n h c : Bool) :
    (s.setFlags z n h c).halted = s.halted := rfl

@[simp] theorem State.setFlags_cycles (s : State) (z n h c : Bool) :
    (s.setFlags z n h c).cycles = s.cycles := rfl

@[simp] theorem State.setFlags_faultLatch (s : State) (z n h c : Bool) :
    (s.setFlags z n h c).faultLatch = s.faultLatch := rfl

@[simp] theorem State.setFlags_vram (s : State) (z n h c : Bool) :
    (s.setFlags z n h c).vram = s.vram := rfl

@[simp] theorem State.setFlags_cartRam (s : State) (z n h c : Bool) :
    (s.setFlags z n h c).cartRam = s.cartRam := rfl

@[simp] theorem State.setFlags_wram (s : State) (z n h c : Bool) :
    (s.setFlags z n h c).wram = s.wram := rfl

@[simp] theorem State.setFlags_oam (s : State) (z n h c : Bool) :
    (s.setFlags z n h c).oam = s.oam := rfl

@[simp] theorem State.setFlags_io (s : State) (z n h c : Bool) :
    (s.setFlags z n h c).io = s.io := rfl

@[simp] theorem State.setFlags_hram (s : State) (z n h c : Bool) :
    (s.setFlags z n h c).hram = s.hram := rfl

@[simp] theorem State.setFlags_ie (s : State) (z n h c : Bool) :
    (s.setFlags z n h c).ie = s.ie := rfl

@[simp] theorem State.setFlags_ramEnable (s : State) (z n h c : Bool) :
    (s.setFlags z n h c).ramEnable = s.ramEnable := rfl

@[simp] theorem State.setFlags_romBankLow5 (s : State) (z n h c : Bool) :
    (s.setFlags z n h c).romBankLow5 = s.romBankLow5 := rfl

@[simp] theorem State.setFlags_romBankHigh2 (s : State) (z n h c : Bool) :
    (s.setFlags z n h c).romBankHigh2 = s.romBankHigh2 := rfl

@[simp] theorem State.setFlags_bankingMode (s : State) (z n h c : Bool) :
    (s.setFlags z n h c).bankingMode = s.bankingMode := rfl

@[simp] theorem State.setFlags_rom (s : State) (z n h c : Bool) :
    (s.setFlags z n h c).rom = s.rom := rfl

@[simp] theorem State.setFlags_romLen (s : State) (z n h c : Bool) :
    (s.setFlags z n h c).romLen = s.romLen := rfl

@[simp] theorem State.setFlags_romBanks (s : State) (z n h c : Bool) :
    (s.setFlags z n h c).romBanks = s.romBanks := rfl

@[simp] theorem State.setFlags_cycleTable (s : State) (z n h c : Bool) :
    (s.setFlags z n h c).cycleTable = s.cycleTable := rfl

/-! `setHl`, `setPair`, `setStackPair`. -/

@[simp] theorem State.setHl_a (s : State) (v : Word) :
    (s.setHl v).a = s.a := rfl

@[simp] theorem State.setHl_f (s : State) (v : Word) :
    (s.setHl v).f = s.f := rfl

@[simp] theorem State.setHl_b (s : State) (v : Word) :
    (s.setHl v).b = s.b := rfl

@[simp] theorem State.setHl_c (s : State) (v : Word) :
    (s.setHl v).c = s.c := rfl

@[simp] theorem State.setHl_d (s : State) (v : Word) :
    (s.setHl v).d = s.d := rfl

@[simp] theorem State.setHl_e (s : State) (v : Word) :
    (s.setHl v).e = s.e := rfl

@[simp] theorem State.setHl_sp (s : State) (v : Word) :
    (s.setHl v).sp = s.sp := rfl

@[simp] theorem State.setHl_pc (s : State) (v : Word) :
    (s.setHl v).pc = s.pc := rfl

@[simp] theorem State.setHl_ime (s : State) (v : Word) :
    (s.setHl v).ime = s.ime := rfl

@[simp] theorem State.setHl_imePending (s : State) (v : Word) :
    (s.setHl v).imePending = s.imePending := rfl

@[simp] theorem State.setHl_eiJust (s : State) (v : Word) :
    (s.setHl v).eiJust = s.eiJust := rfl

@[simp] theorem State.setHl_halted (s : State) (v : Word) :
    (s.setHl v).halted = s.halted := rfl

@[simp] theorem State.setHl_cycles (s : State) (v : Word) :
    (s.setHl v).cycles = s.cycles := rfl

@[simp] theorem State.setHl_faultLatch (s : State) (v : Word) :
    (s.setHl v).faultLatch = s.faultLatch := rfl

@[simp] theorem State.setHl_vram (s : State) (v : Word) :
    (s.setHl v).vram = s.vram := rfl

@[simp] theorem State.setHl_cartRam (s : State) (v : Word) :
    (s.setHl v).cartRam = s.cartRam := rfl

@[simp] theorem State.setHl_wram (s : State) (v : Word) :
    (s.setHl v).wram = s.wram := rfl

@[simp] theorem State.setHl_oam (s : State) (v : Word) :
    (s.setHl v).oam = s.oam := rfl

@[simp] theorem State.setHl_io (s : State) (v : Word) :
    (s.setHl v).io = s.io := rfl

@[simp] theorem State.setHl_hram (s : State) (v : Word) :
    (s.setHl v).hram = s.hram := rfl

@[simp] theorem State.setHl_ie (s : State) (v : Word) :
    (s.setHl v).ie = s.ie := rfl

@[simp] theorem State.setHl_ramEnable (s : State) (v : Word) :
    (s.setHl v).ramEnable = s.ramEnable := rfl

@[simp] theorem State.setHl_romBankLow5 (s : State) (v : Word) :
    (s.setHl v).romBankLow5 = s.romBankLow5 := rfl

@[simp] theorem State.setHl_romBankHigh2 (s : State) (v : Word) :
    (s.setHl v).romBankHigh2 = s.romBankHigh2 := rfl

@[simp] theorem State.setHl_bankingMode (s : State) (v : Word) :
    (s.setHl v).bankingMode = s.bankingMode := rfl

@[simp] theorem State.setHl_rom (s : State) (v : Word) :
    (s.setHl v).rom = s.rom := rfl

@[simp] theorem State.setHl_romLen (s : State) (v : Word) :
    (s.setHl v).romLen = s.romLen := rfl

@[simp] theorem State.setHl_romBanks (s : State) (v : Word) :
    (s.setHl v).romBanks = s.romBanks := rfl

@[simp] theorem State.setHl_cycleTable (s : State) (v : Word) :
    (s.setHl v).cycleTable = s.cycleTable := rfl

@[simp] theorem State.setHl_h (s : State) (v : Word) :
    (s.setHl v).h = hiByte v := rfl

@[simp] theorem State.setHl_l (s : State) (v : Word) :
    (s.setHl v).l = loByte v := rfl

@[simp] theorem State.setPair_a (s : State) (p : Reg16) (v : Word) :
    (s.setPair p v).a = s.a := by cases p <;> rfl

@[simp] theorem State.setPair_f (s : State) (p : Reg16) (v : Word) :
    (s.setPair p v).f = s.f := by cases p <;> rfl

@[simp] theorem State.setPair_pc (s : State) (p : Reg16) (v : Word) :
    (s.setPair p v).pc = s.pc := by cases p <;> rfl

@[simp] theorem State.setPair_ime (s : State) (p : Reg16) (v : Word) :
    (s.setPair p v).ime = s.ime := by cases p <;> rfl

@[simp] theorem State.setPair_imePending (s : State) (p : Reg16) (v : Word) :
    (s.setPair p v).imePending = s.imePending := by cases p <;> rfl

@[simp] theorem State.setPair_eiJust (s : State) (p : Reg16) (v : Word) :
    (s.setPair p v).eiJust = s.eiJust := by cases p <;> rfl

@[simp] theorem State.setPair_halted (s : State) (p : Reg16) (v : Word) :
    (s.setPair p v).halted = s.halted := by cases p <;> rfl

@[simp] theorem State.setPair_cycles (s : State) (p : Reg16) (v : Word) :
    (s.setPair p v).cycles = s.cycles := by cases p <;> rfl

@[simp] theorem State.setPair_faultLatch (s : State) (p : Reg16) (v : Word) :
    (s.setPair p v).faultLatch = s.faultLatch := by cases p <;> rfl

@[simp] theorem State.setPair_vram (s : State) (p : Reg16) (v : Word) :
    (s.setPair p v).vram = s.vram := by cases p <;> rfl

@[simp] theorem State.setPair_cartRam (s : State) (p : Reg16) (v : Word) :
    (s.setPair p v).cartRam = s.cartRam := by cases p <;> rfl

@[simp] theorem State.setPair_wram (s : State) (p : Reg16) (v : Word) :
    (s.setPair p v).wram = s.wram := by cases p <;> rfl

@[simp] theorem State.setPair_oam (s : State) (p : Reg16) (v : Word) :
    (s.setPair p v).oam = s.oam := by cases p <;> rfl

@[simp] theorem State.setPair_io (s : State) (p : Reg16) (v : Word) :
    (s.setPair p v).io = s.io := by cases p <;> rfl

@[simp] theorem State.setPair_hram (s : State) (p : Reg16) (v : Word) :
    (s.setPair p v).hram = s.hram := by cases p <;> rfl

@[simp] theorem State.setPair_ie (s : State) (p : Reg16) (v : Word) :
    (s.setPair p v).ie = s.ie := by cases p <;> rfl

@[simp] theorem State.setPair_ramEnable (s : State) (p : Reg16) (v : Word) :
    (s.setPair p v).ramEnable = s.ramEnable := by cases p <;> rfl

@[simp] theorem State.setPair_romBankLow5 (s : State) (p : Reg16) (v : Word) :
    (s.setPair p v).romBankLow5 = s.romBankLow5 := by cases p <;> rfl

@[simp] theorem State.setPair_romBankHigh2 (s : State) (p : Reg16) (v : Word) :
    (s.setPair p v).romBankHigh2 = s.romBankHigh2 := by cases p <;> rfl

@[simp] theorem State.setPair_bankingMode (s : State) (p : Reg16) (v : Word) :
    (s.setPair p v).bankingMode = s.bankingMode := by cases p <;> rfl

@[simp] theorem State.setPair_rom (s : State) (p : Reg16) (v : Word) :
    (s.setPair p v).rom = s.rom := by cases p <;> rfl

@[simp] theorem State.setPair_romLen (s : State) (p : Reg16) (v : Word) :
    (s.setPair p v).romLen = s.romLen := by cases p <;> rfl

@[simp] theorem State.setPair_romBanks (s : State) (p : Reg16) (v : Word) :
    (s.setPair p v).romBanks = s.romBanks := by cases p <;> rfl

@[simp] theorem State.setPair_cycleTable (s : State) (p : Reg16) (v : Word) :
    (s.setPair p v).cycleTable = s.cycleTable := by cases p <;> rfl

@[simp] theorem State.setStackPair_sp (s : State) (p : StackPair) (v : Word) :
    (s.setStackPair p v).sp = s.sp := by cases p <;> rfl

@[simp] theorem State.setStackPair_pc (s : State) (p : StackPair) (v : Word) :
    (s.setStackPair p v).pc = s.pc := by cases p <;> rfl

@[simp] theorem State.setStackPair_ime (s : State) (p : StackPair) (v : Word) :
    (s.setStackPair p v).ime = s.ime := by cases p <;> rfl

@[simp] theorem State.setStackPair_imePending (s : State) (p : StackPair) (v : Word) :
    (s.setStackPair p v).imePending = s.imePending := by cases p <;> rfl

@[simp] theorem State.setStackPair_eiJust (s : State) (p : StackPair) (v : Word) :
    (s.setStackPair p v).eiJust = s.eiJust := by cases p <;> rfl

@[simp] theorem State.setStackPair_halted (s : State) (p : StackPair) (v : Word) :
    (s.setStackPair p v).halted = s.halted := by cases p <;> rfl

@[simp] theorem State.setStackPair_cycles (s : State) (p : StackPair) (v : Word) :
    (s.setStackPair p v).cycles = s.cycles := by cases p <;> rfl

@[simp] theorem State.setStackPair_faultLatch (s : State) (p : StackPair) (v : Word) :
    (s.setStackPair p v).faultLatch = s.faultLatch := by cases p <;> rfl

@[simp] theorem State.setStackPair_vram (s : State) (p : StackPair) (v : Word) :
    (s.setStackPair p v).vram = s.vram := by cases p <;> rfl

@[simp] theorem State.setStackPair_cartRam (s : State) (p : StackPair) (v : Word) :
    (s.setStackPair p v).cartRam = s.cartRam := by cases p <;> rfl

@[simp] theorem State.setStackPair_wram (s : State) (p : StackPair) (v : Word) :
    (s.setStackPair p v).wram = s.wram := by cases p <;> rfl

@[simp] theorem State.setStackPair_oam (s : State) (p : StackPair) (v : Word) :
    (s.setStackPair p v).oam = s.oam := by cases p <;> rfl

@[simp] theorem State.setStackPair_io (s : State) (p : StackPair) (v : Word) :
    (s.setStackPair p v).io = s.io := by cases p <;> rfl

@[simp] theorem State.setStackPair_hram (s : State) (p : StackPair) (v : Word) :
    (s.setStackPair p v).hram = s.hram := by cases p <;> rfl

@[simp] theorem State.setStackPair_ie (s : State) (p : StackPair) (v : Word) :
    (s.setStackPair p v).ie = s.ie := by cases p <;> rfl

@[simp] theorem State.setStackPair_ramEnable (s : State) (p : StackPair) (v : Word) :
    (s.setStackPair p v).ramEnable = s.ramEnable := by cases p <;> rfl

@[simp] theorem State.setStackPair_romBankLow5 (s : State) (p : StackPair) (v : Word) :
    (s.setStackPair p v).romBankLow5 = s.romBankLow5 := by cases p <;> rfl

@[simp] theorem State.setStackPair_romBankHigh2 (s : State) (p : StackPair) (v : Word) :
    (s.setStackPair p v).romBankHigh2 = s.romBankHigh2 := by cases p <;> rfl

@[simp] theorem State.setStackPair_bankingMode (s : State) (p : StackPair) (v : Word) :
    (s.setStackPair p v).bankingMode = s.bankingMode := by cases p <;> rfl

@[simp] theorem State.setStackPair_rom (s : State) (p : StackPair) (v : Word) :
    (s.setStackPair p v).rom = s.rom := by cases p <;> rfl

@[simp] theorem State.setStackPair_romLen (s : State) (p : StackPair) (v : Word) :
    (s.setStackPair p v).romLen = s.romLen := by cases p <;> rfl

@[simp] theorem State.setStackPair_romBanks (s : State) (p : StackPair) (v : Word) :
    (s.setStackPair p v).romBanks = s.romBanks := by cases p <;> rfl

@[simp] theorem State.setStackPair_cycleTable (s : State) (p : StackPair) (v : Word) :
    (s.setStackPair p v).cycleTable = s.cycleTable := by cases p <;> rfl

/-! `writePlace`, `mbc1Write`, `oamCopy`, `oamDma`, `writeByte`: nothing outside memory. -/

@[simp] theorem State.writePlace_a (s : State) (p : Place) (v : Byte) :
    (s.writePlace p v).a = s.a := by cases p <;> rfl

@[simp] theorem State.writePlace_f (s : State) (p : Place) (v : Byte) :
    (s.writePlace p v).f = s.f := by cases p <;> rfl

@[simp] theorem State.writePlace_b (s : State) (p : Place) (v : Byte) :
    (s.writePlace p v).b = s.b := by cases p <;> rfl

@[simp] theorem State.writePlace_c (s : State) (p : Place) (v : Byte) :
    (s.writePlace p v).c = s.c := by cases p <;> rfl

@[simp] theorem State.writePlace_d (s : State) (p : Place) (v : Byte) :
    (s.writePlace p v).d = s.d := by cases p <;> rfl

@[simp] theorem State.writePlace_e (s : State) (p : Place) (v : Byte) :
    (s.writePlace p v).e = s.e := by cases p <;> rfl

@[simp] theorem State.writePlace_h (s : State) (p : Place) (v : Byte) :
    (s.writePlace p v).h = s.h := by cases p <;> rfl

@[simp] theorem State.writePlace_l (s : State) (p : Place) (v : Byte) :
    (s.writePlace p v).l = s.l := by cases p <;> rfl

@[simp] theorem State.writePlace_sp (s : State) (p : Place) (v : Byte) :
    (s.writePlace p v).sp = s.sp := by cases p <;> rfl

@[simp] theorem State.writePlace_pc (s : State) (p : Place) (v : Byte) :
    (s.writePlace p v).pc = s.pc := by cases p <;> rfl

@[simp] theorem State.writePlace_ime (s : State) (p : Place) (v : Byte) :
    (s.writePlace p v).ime = s.ime := by cases p <;> rfl

@[simp] theorem State.writePlace_imePending (s : State) (p : Place) (v : Byte) :
    (s.writePlace p v).imePending = s.imePending := by cases p <;> rfl

@[simp] theorem State.writePlace_eiJust (s : State) (p : Place) (v : Byte) :
    (s.writePlace p v).eiJust = s.eiJust := by cases p <;> rfl

@[simp] theorem State.writePlace_halted (s : State) (p : Place) (v : Byte) :
    (s.writePlace p v).halted = s.halted := by cases p <;> rfl

@[simp] theorem State.writePlace_cycles (s : State) (p : Place) (v : Byte) :
    (s.writePlace p v).cycles = s.cycles := by cases p <;> rfl

@[simp] theorem State.writePlace_faultLatch (s : State) (p : Place) (v : Byte) :
    (s.writePlace p v).faultLatch = s.faultLatch := by cases p <;> rfl

@[simp] theorem State.writePlace_rom (s : State) (p : Place) (v : Byte) :
    (s.writePlace p v).rom = s.rom := by cases p <;> rfl

@[simp] theorem State.writePlace_romLen (s : State) (p : Place) (v : Byte) :
    (s.writePlace p v).romLen = s.romLen := by cases p <;> rfl

@[simp] theorem State.writePlace_romBanks (s : State) (p : Place) (v : Byte) :
    (s.writePlace p v).romBanks = s.romBanks := by cases p <;> rfl

@[simp] theorem State.writePlace_cycleTable (s : State) (p : Place) (v : Byte) :
    (s.writePlace p v).cycleTable = s.cycleTable := by cases p <;> rfl

@[simp] theorem State.writePlace_ramEnable (s : State) (p : Place) (v : Byte) :
    (s.writePlace p v).ramEnable = s.ramEnable := by cases p <;> rfl

@[simp] theorem State.writePlace_romBankLow5 (s : State) (p : Place) (v : Byte) :
    (s.writePlace p v).romBankLow5 = s.romBankLow5 := by cases p <;> rfl

@[simp] theorem State.writePlace_romBankHigh2 (s : State) (p : Place) (v : Byte) :
    (s.writePlace p v).romBankHigh2 = s.romBankHigh2 := by cases p <;> rfl

@[simp] theorem State.writePlace_bankingMode (s : State) (p : Place) (v : Byte) :
    (s.writePlace p v).bankingMode = s.bankingMode := by cases p <;> rfl

@[simp] theorem State.mbc1Write_a (s : State) (addr : Word) (v : Byte) :
    (s.mbc1Write addr v).a = s.a := by
  unfold State.mbc1Write; dsimp only; split_ifs <;> rfl

@[simp] theorem State.mbc1Write_f (s : State) (addr : Word) (v : Byte) :
    (s.mbc1Write addr v).f = s.f := by
  unfold State.mbc1Write; dsimp only; split_ifs <;> rfl

@[simp] theorem State.mbc1Write_b (s : State) (addr : Word) (v : Byte) :
    (s.mbc1Write addr v).b = s.b := by
  unfold State.mbc1Write; dsimp only; split_ifs <;> rfl

@[simp] theorem State.mbc1Write_c (s : State) (addr : Word) (v : Byte) :
    (s.mbc1Write addr v).c = s.c := by
  unfold State.mbc1Write; dsimp only; split_ifs <;> rfl

@[simp] theorem State.mbc1Write_d (s : State) (addr : Word) (v : Byte) :
    (s.mbc1Write addr v).d = s.d := by
  unfold State.mbc1Write; dsimp only; split_ifs <;> rfl

@[simp] theorem State.mbc1Write_e (s : State) (addr : Word) (v : Byte) :
    (s.mbc1Write addr v).e = s.e := by
  unfold State.mbc1Write; dsimp only; split_ifs <;> rfl

@[simp] theorem State.mbc1Write_h (s : State) (addr : Word) (v : Byte) :
    (s.mbc1Write addr v).h = s.h := by
  unfold State.mbc1Write; dsimp only; split_ifs <;> rfl

@[simp] theorem State.mbc1Write_l (s : State) (addr : Word) (v : Byte) :
    (s.mbc1Write addr v).l = s.l := by
  unfold State.mbc1Write; dsimp only; split_ifs <;> rfl

@[simp] theorem State.mbc1Write_sp (s : State) (addr : Word) (v : Byte) :
    (s.mbc1Write addr v).sp = s.sp := by
  unfold State.mbc1Write; dsimp only; split_ifs <;> rfl

@[simp] theorem State.mbc1Write_pc (s : State) (addr : Word) (v : Byte) :
    (s.mbc1Write addr v).pc = s.pc := by
  unfold State.mbc1Write; dsimp only; split_ifs <;> rfl

@[simp] theorem State.mbc1Write_ime (s : State) (addr : Word) (v : Byte) :
    (s.mbc1Write addr v).ime = s.ime := by
  unfold State.mbc1Write; dsimp only; split_ifs <;> rfl

@[simp] theorem State.mbc1Write_imePending (s : State) (addr : Word) (v : Byte) :
    (s.mbc1Write addr v).imePending = s.imePending := by
  unfold State.mbc1Write; dsimp only; split_ifs <;> rfl

@[simp] theorem State.mbc1Write_eiJust (s : State) (addr : Word) (v : Byte) :
    (s.mbc1Write addr v).eiJust = s.eiJust := by
  unfold State.mbc1Write; dsimp only; split_ifs <;> rfl

@[simp] theorem State.mbc1Write_halted (s : State) (addr : Word) (v : Byte) :
    (s.mbc1Write addr v).halted = s.halted := by
  unfold State.mbc1Write; dsimp only; split_ifs <;> rfl

@[simp] theorem State.mbc1Write_cycles (s : State) (addr : Word) (v : Byte) :
    (s.mbc1Write addr v).cycles = s.cycles := by
  unfold State.mbc1Write; dsimp only; split_ifs <;> rfl

@[simp] theorem State.mbc1Write_faultLatch (s : State) (addr : Word) (v : Byte) :
    (s.mbc1Write addr v).faultLatch = s.faultLatch := by
  unfold State.mbc1Write; dsimp only; split_ifs <;> rfl

@[simp] theorem State.mbc1Write_rom (s : State) (addr : Word) (v : Byte) :
    (s.mbc1Write addr v).rom = s.rom := by
  unfold State.mbc1Write; dsimp only; split_ifs <;> rfl

@[simp] theorem State.mbc1Write_romLen (s : State) (addr : Word) (v : Byte) :
    (s.mbc1Write addr v).romLen = s.romLen := by
  unfold State.mbc1Write; dsimp only; split_ifs <;> rfl

@[simp] theorem State.mbc1Write_romBanks (s : State) (addr : Word) (v : Byte) :
    (s.mbc1Write addr v).romBanks = s.romBanks := by
  unfold State.mbc1Write; dsimp only; split_ifs <;> rfl

@[simp] theorem State.mbc1Write_cycleTable (s : State) (addr : Word) (v : Byte) :
    (s.mbc1Write addr v).cycleTable = s.cycleTable := by
  unfold State.mbc1Write; dsimp only; split_ifs <;> rfl

@[simp] theorem State.mbc1Write_vram (s : State) (addr : Word) (v : Byte) :
    (s.mbc1Write addr v).vram = s.vram := by
  unfold State.mbc1Write; dsimp only; split_ifs <;> rfl

@[simp] theorem State.mbc1Write_cartRam (s : State) (addr : Word) (v : Byte) :
    (s.mbc1Write addr v).cartRam = s.cartRam := by
  unfold State.mbc1Write; dsimp only; split_ifs <;> rfl

@[simp] theorem State.mbc1Write_wram (s : State) (addr : Word) (v : Byte) :
    (s.mbc1Write addr v).wram = s.wram := by
  unfold State.mbc1Write; dsimp only; split_ifs <;> rfl

@[simp] theorem State.mbc1Write_oam (s : State) (addr : Word) (v : Byte) :
    (s.mbc1Write addr v).oam = s.oam := by
  unfold State.mbc1Write; dsimp only; split_ifs <;> rfl

@[simp] theorem State.mbc1Write_io (s : State) (addr : Word) (v : Byte) :
    (s.mbc1Write addr v).io = s.io := by
  unfold State.mbc1Write; dsimp only; split_ifs <;> rfl

@[simp] theorem State.mbc1Write_hram (s : State) (addr : Word) (v : Byte) :
    (s.mbc1Write addr v).hram = s.hram := by
  unfold State.mbc1Write; dsimp only; split_ifs <;> rfl

@[simp] theorem State.mbc1Write_ie (s : State) (addr : Word) (v : Byte) :
    (s.mbc1Write addr v).ie = s.ie := by
  unfold State.mbc1Write; dsimp only; split_ifs <;> rfl

@[simp] theorem State.oamCopy_a (s : State) (v : Byte) (n : Nat) :
    (s.oamCopy v n).a = s.a := by
  induction n with
  | zero => rfl
  | succ n ih => exact ih

@[simp] theorem State.oamCopy_f (s : State) (v : Byte) (n : Nat) :
    (s.oamCopy v n).f = s.f := by
  induction n with
  | zero => rfl
  | succ n ih => exact ih

@[simp] theorem State.oamCopy_b (s : State) (v : Byte) (n : Nat) :
    (s.oamCopy v n).b = s.b := by
  induction n with
  | zero => rfl
  | succ n ih => exact ih

@[simp] theorem State.oamCopy_c (s : State) (v : Byte) (n : Nat) :
    (s.oamCopy v n).c = s.c := by
  induction n with
  | zero => rfl
  | succ n ih => exact ih

@[simp] theorem State.oamCopy_d (s : State) (v : Byte) (n : Nat) :
    (s.oamCopy v n).d = s.d := by
  induction n with
  | zero => rfl
  | succ n ih => exact ih

@[simp] theorem State.oamCopy_e (s : State) (v : Byte) (n : Nat) :
    (s.oamCopy v n).e = s.e := by
  induction n with
  | zero => rfl
  | succ n ih => exact ih

@[simp] theorem State.oamCopy_h (s : State) (v : Byte) (n : Nat) :
    (s.oamCopy v n).h = s.h := by
  induction n with
  | zero => rfl
  | succ n ih => exact ih

@[simp] theorem State.oamCopy_l (s : State) (v : Byte) (n : Nat) :
    (s.oamCopy v n).l = s.l := by
  induction n with
  | zero => rfl
  | succ n ih => exact ih

@[simp] theorem State.oamCopy_sp (s : State) (v : Byte) (n : Nat) :
    (s.oamCopy v n).sp = s.sp := by
  induction n with
  | zero => rfl
  | succ n ih => exact ih

@[simp] theorem State.oamCopy_pc (s : State) (v : Byte) (n : Nat) :
    (s.oamCopy v n).pc = s.pc := by
  induction n with
  | zero => rfl
  | succ n ih => exact ih

@[simp] theorem State.oamCopy_ime (s : State) (v : Byte) (n : Nat) :
    (s.oamCopy v n).ime = s.ime := by
  induction n with
  | zero => rfl
  | succ n ih => exact ih

@[simp] theorem State.oamCopy_imePending (s : State) (v : Byte) (n : Nat) :
    (s.oamCopy v n).imePending = s.imePending := by
  induction n with
  | zero => rfl
  | succ n ih => exact ih

@[simp] theorem State.oamCopy_eiJust (s : State) (v : Byte) (n : Nat) :
    (s.oamCopy v n).eiJust = s.eiJust := by
  induction n with
  | zero => rfl
  | succ n ih => exact ih

@[simp] theorem State.oamCopy_halted (s : State) (v : Byte) (n : Nat) :
    (s.oamCopy v n).halted = s.halted := by
  induction n with
  | zero => rfl
  | succ n ih => exact ih

@[simp] theorem State.oamCopy_cycles (s : State) (v : Byte) (n : Nat) :
    (s.oamCopy v n).cycles = s.cycles := by
  induction n with
  | zero => rfl
  | succ n ih => exact ih

@[simp] theorem State.oamCopy_faultLatch (s : State) (v : Byte) (n : Nat) :
    (s.oamCopy v n).faultLatch = s.faultLatch := by
  induction n with
  | zero => rfl
  | succ n ih => exact ih

@[simp] theorem State.oamCopy_vram (s : State) (v : Byte) (n : Nat) :
    (s.oamCopy v n).vram = s.vram := by
  induction n with
  | zero => rfl
  | succ n ih => exact ih

@[simp] theorem State.oamCopy_cartRam (s : State) (v : Byte) (n : Nat) :
    (s.oamCopy v n).cartRam = s.cartRam := by
  induction n with
  | zero => rfl
  | succ n ih => exact ih

@[simp] theorem State.oamCopy_wram (s : State) (v : Byte) (n : Nat) :
    (s.oamCopy v n).wram = s.wram := by
  induction n with
  | zero => rfl
  | succ n ih => exact ih

@[simp] theorem State.oamCopy_io (s : State) (v : Byte) (n : Nat) :
    (s.oamCopy v n).io = s.io := by
  induction n with
  | zero => rfl
  | succ n ih => exact ih

@[simp] theorem State.oamCopy_hram (s : State) (v : Byte) (n : Nat) :
    (s.oamCopy v n).hram = s.hram := by
  induction n with
  | zero => rfl
  | succ n ih => exact ih

@[simp] theorem State.oamCopy_ie (s : State) (v : Byte) (n : Nat) :
    (s.oamCopy v n).ie = s.ie := by
  induction n with
  | zero => rfl
  | succ n ih => exact ih

@[simp] theorem State.oamCopy_ramEnable (s : State) (v : Byte) (n : Nat) :
    (s.oamCopy v n).ramEnable = s.ramEnable := by
  induction n with
  | zero => rfl
  | succ n ih => exact ih

@[simp] theorem State.oamCopy_romBankLow5 (s : State) (v : Byte) (n : Nat) :
    (s.oamCopy v n).romBankLow5 = s.romBankLow5 := by
  induction n with
  | zero => rfl
  | succ n ih => exact ih

@[simp] theorem State.oamCopy_romBankHigh2 (s : State) (v : Byte) (n : Nat) :
    (s.oamCopy v n).romBankHigh2 = s.romBankHigh2 := by
  induction n with
  | zero => rfl
  | succ n ih => exact ih

@[simp] theorem State.oamCopy_bankingMode (s : State) (v : Byte) (n : Nat) :
    (s.oamCopy v n).bankingMode = s.bankingMode := by
  induction n with
  | zero => rfl
  | succ n ih => exact ih

@[simp] theorem State.oamCopy_rom (s : State) (v : Byte) (n : Nat) :
    (s.oamCopy v n).rom = s.rom := by
  induction n with
  | zero => rfl
  | succ n ih => exact ih

@[simp] theorem State.oamCopy_romLen (s : State) (v : Byte) (n : Nat) :
    (s.oamCopy v n).romLen = s.romLen := by
  induction n with
  | zero => rfl
  | succ n ih => exact ih

@[simp] theorem State.oamCopy_romBanks (s : State) (v : Byte) (n : Nat) :
    (s.oamCopy v n).romBanks = s.romBanks := by
  induction n with
  | zero => rfl
  | succ n ih => exact ih

@[simp] theorem State.oamCopy_cycleTable (s : State) (v : Byte) (n : Nat) :
    (s.oamCopy v n).cycleTable = s.cycleTable := by
  induction n with
  | zero => rfl
  | succ n ih => exact ih

@[simp] theorem State.oamDma_a (s : State) (v : Byte) :
    (s.oamDma v).a = s.a := s.oamCopy_a v 0xA0

@[simp] theorem State.oamDma_f (s : State) (v : Byte) :
    (s.oamDma v).f = s.f := s.oamCopy_f v 0xA0

@[simp] theorem State.oamDma_b (s : State) (v : Byte) :
    (s.oamDma v).b = s.b := s.oamCopy_b v 0xA0

@[simp] theorem State.oamDma_c (s : State) (v : Byte) :
    (s.oamDma v).c = s.c := s.oamCopy_c v 0xA0

@[simp] theorem State.oamDma_d (s : State) (v : Byte) :
    (s.oamDma v).d = s.d := s.oamCopy_d v 0xA0

@[simp] theorem State.oamDma_e (s : State) (v : Byte) :
    (s.oamDma v).e = s.e := s.oamCopy_e v 0xA0

@[simp] theorem State.oamDma_h (s : State) (v : Byte) :
    (s.oamDma v).h = s.h := s.oamCopy_h v 0xA0

@[simp] theorem State.oamDma_l (s : State) (v : Byte) :
    (s.oamDma v).l = s.l := s.oamCopy_l v 0xA0

@[simp] theorem State.oamDma_sp (s : State) (v : Byte) :
    (s.oamDma v).sp = s.sp := s.oamCopy_sp v 0xA0

@[simp] theorem State.oamDma_pc (s : State) (v : Byte) :
    (s.oamDma v).pc = s.pc := s.oamCopy_pc v 0xA0

@[simp] theorem State.oamDma_ime (s : State) (v : Byte) :
    (s.oamDma v).ime = s.ime := s.oamCopy_ime v 0xA0

@[simp] theorem State.oamDma_imePending (s : State) (v : Byte) :
    (s.oamDma v).imePending = s.imePending := s.oamCopy_imePending v 0xA0

@[simp] theorem State.oamDma_eiJust (s : State) (v : Byte) :
    (s.oamDma v).eiJust = s.eiJust := s.oamCopy_eiJust v 0xA0

@[simp] theorem State.oamDma_halted (s : State) (v : Byte) :
    (s.oamDma v).halted = s.halted := s.oamCopy_halted v 0xA0

@[simp] theorem State.oamDma_cycles (s : State) (v : Byte) :
    (s.oamDma v).cycles = s.cycles := s.oamCopy_cycles v 0xA0

@[simp] theorem State.oamDma_faultLatch (s : State) (v : Byte) :
    (s.oamDma v).faultLatch = s.faultLatch := s.oamCopy_faultLatch v 0xA0

@[simp] theorem State.oamDma_vram (s : State) (v : Byte) :
    (s.oamDma v).vram = s.vram := s.oamCopy_vram v 0xA0

@[simp] theorem State.oamDma_cartRam (s : State) (v : Byte) :
    (s.oamDma v).cartRam = s.cartRam := s.oamCopy_cartRam v 0xA0

@[simp] theorem State.oamDma_wram (s : State) (v : Byte) :
    (s.oamDma v).wram = s.wram := s.oamCopy_wram v 0xA0

@[simp] theorem State.oamDma_io (s : State) (v : Byte) :
    (s.oamDma v).io = s.io := s.oamCopy_io v 0xA0

@[simp] theorem State.oamDma_hram (s : State) (v : Byte) :
    (s.oamDma v).hram = s.hram := s.oamCopy_hram v 0xA0

@[simp] theorem State.oamDma_ie (s : State) (v : Byte) :
    (s.oamDma v).ie = s.ie := s.oamCopy_ie v 0xA0

@[simp] theorem State.oamDma_ramEnable (s : State) (v : Byte) :
    (s.oamDma v).ramEnable = s.ramEnable := s.oamCopy_ramEnable v 0xA0

@[simp] theorem State.oamDma_romBankLow5 (s : State) (v : Byte) :
    (s.oamDma v).romBankLow5 = s.romBankLow5 := s.oamCopy_romBankLow5 v 0xA0

@[simp] theorem State.oamDma_romBankHigh2 (s : State) (v : Byte) :
    (s.oamDma v).romBankHigh2 = s.romBankHigh2 := s.oamCopy_romBankHigh2 v 0xA0

@[simp] theorem State.oamDma_bankingMode (s : State) (v : Byte) :
    (s.oamDma v).bankingMode = s.bankingMode := s.oamCopy_bankingMode v 0xA0

@[simp] theorem State.oamDma_rom (s : State) (v : Byte) :
    (s.oamDma v).rom = s.rom := s.oamCopy_rom v 0xA0

@[simp] theorem State.oamDma_romLen (s : State) (v : Byte) :
    (s.oamDma v).romLen = s.romLen := s.oamCopy_romLen v 0xA0

@[simp] theorem State.oamDma_romBanks (s : State) (v : Byte) :
    (s.oamDma v).romBanks = s.romBanks := s.oamCopy_romBanks v 0xA0

@[simp] theorem State.oamDma_cycleTable (s : State) (v : Byte) :
    (s.oamDma v).cycleTable = s.cycleTable := s.oamCopy_cycleTable v 0xA0

@[simp] theorem State.writeByte_a (s : State) (addr : Word) (v : Byte) :
    (s.writeByte addr v).a = s.a := by
  unfold State.writeByte; dsimp only
  by_cases h : addr = dmaAddr <;> cases regionOf addr <;> simp only [h, if_true, if_false, State.mbc1Write_a] <;>
    split <;> simp

@[simp] theorem State.writeByte_f (s : State) (addr : Word) (v : Byte) :
    (s.writeByte addr v).f = s.f := by
  unfold State.writeByte; dsimp only
  by_cases h : addr = dmaAddr <;> cases regionOf addr <;> simp only [h, if_true, if_false, State.mbc1Write_f] <;>
    split <;> simp

@[simp] theorem State.writeByte_b (s : State) (addr : Word) (v : Byte) :
    (s.writeByte addr v).b = s.b := by
  unfold State.writeByte; dsimp only
  by_cases h : addr = dmaAddr <;> cases regionOf addr <;> simp only [h, if_true, if_false, State.mbc1Write_b] <;>
    split <;> simp

@[simp] theorem State.writeByte_c (s : State) (addr : Word) (v : Byte) :
    (s.writeByte addr v).c = s.c := by
  unfold State.writeByte; dsimp only
  by_cases h : addr = dmaAddr <;> cases regionOf addr <;> simp only [h, if_true, if_false, State.mbc1Write_c] <;>
    split <;> simp

@[simp] theorem State.writeByte_d (s : State) (addr : Word) (v : Byte) :
    (s.writeByte addr v).d = s.d := by
  unfold State.writeByte; dsimp only
  by_cases h : addr = dmaAddr <;> cases regionOf addr <;> simp only [h, if_true, if_false, State.mbc1Write_d] <;>
    split <;> simp

@[simp] theorem State.writeByte_e (s : State) (addr : Word) (v : Byte) :
    (s.writeByte addr v).e = s.e := by
  unfold State.writeByte; dsimp only
  by_cases h : addr = dmaAddr <;> cases regionOf addr <;> simp only [h, if_true, if_false, State.mbc1Write_e] <;>
    split <;> simp

@[simp] theorem State.writeByte_h (s : State) (addr : Word) (v : Byte) :
    (s.writeByte addr v).h = s.h := by
  unfold State.writeByte; dsimp only
  by_cases h : addr = dmaAddr <;> cases regionOf addr <;> simp only [h, if_true, if_false, State.mbc1Write_h] <;>
    split <;> simp

@[simp] theorem State.writeByte_l (s : State) (addr : Word) (v : Byte) :
    (s.writeByte addr v).l = s.l := by
  unfold State.writeByte; dsimp only
  by_cases h : addr = dmaAddr <;> cases regionOf addr <;> simp only [h, if_true, if_false, State.mbc1Write_l] <;>
    split <;> simp

@[simp] theorem State.writeByte_sp (s : State) (addr : Word) (v : Byte) :
    (s.writeByte addr v).sp = s.sp := by
  unfold State.writeByte; dsimp only
  by_cases h : addr = dmaAddr <;> cases regionOf addr <;> simp only [h, if_true, if_false, State.mbc1Write_sp] <;>
    split <;> simp

@[simp] theorem State.writeByte_pc (s : State) (addr : Word) (v : Byte) :
    (s.writeByte addr v).pc = s.pc := by
  unfold State.writeByte; dsimp only
  by_cases h : addr = dmaAddr <;> cases regionOf addr <;> simp only [h, if_true, if_false, State.mbc1Write_pc] <;>
    split <;> simp

@[simp] theorem State.writeByte_ime (s : State) (addr : Word) (v : Byte) :
    (s.writeByte addr v).ime = s.ime := by
  unfold State.writeByte; dsimp only
  by_cases h : addr = dmaAddr <;> cases regionOf addr <;> simp only [h, if_true, if_false, State.mbc1Write_ime] <;>
    split <;> simp

@[simp] theorem State.writeByte_imePending (s : State) (addr : Word) (v : Byte) :
    (s.writeByte addr v).imePending = s.imePending := by
  unfold State.writeByte; dsimp only
  by_cases h : addr = dmaAddr <;> cases regionOf addr <;> simp only [h, if_true, if_false, State.mbc1Write_imePending] <;>
    split <;> simp

@[simp] theorem State.writeByte_eiJust (s : State) (addr : Word) (v : Byte) :
    (s.writeByte addr v).eiJust = s.eiJust := by
  unfold State.writeByte; dsimp only
  by_cases h : addr = dmaAddr <;> cases regionOf addr <;> simp only [h, if_true, if_false, State.mbc1Write_eiJust] <;>
    split <;> simp

@[simp] theorem State.writeByte_halted (s : State) (addr : Word) (v : Byte) :
    (s.writeByte addr v).halted = s.halted := by
  unfold State.writeByte; dsimp only
  by_cases h : addr = dmaAddr <;> cases regionOf addr <;> simp only [h, if_true, if_false, State.mbc1Write_halted] <;>
    split <;> simp

@[simp] theorem State.writeByte_cycles (s : State) (addr : Word) (v : Byte) :
    (s.writeByte addr v).cycles = s.cycles := by
  unfold State.writeByte; dsimp only
  by_cases h : addr = dmaAddr <;> cases regionOf addr <;> simp only [h, if_true, if_false, State.mbc1Write_cycles] <;>
    split <;> simp

@[simp] theorem State.writeByte_faultLatch (s : State) (addr : Word) (v : Byte) :
    (s.writeByte addr v).faultLatch = s.faultLatch := by
  unfold State.writeByte; dsimp only
  by_cases h : addr = dmaAddr <;> cases regionOf addr <;> simp only [h, if_true, if_false, State.mbc1Write_faultLatch] <;>
    split <;> simp

@[simp] theorem State.writeByte_rom (s : State) (addr : Word) (v : Byte) :
    (s.writeByte addr v).rom = s.rom := by
  unfold State.writeByte; dsimp only
  by_cases h : addr = dmaAddr <;> cases regionOf addr <;> simp only [h, if_true, if_false, State.mbc1Write_rom] <;>
    split <;> simp

@[simp] theorem State.writeByte_romLen (s : State) (addr : Word) (v : Byte) :
    (s.writeByte addr v).romLen = s.romLen := by
  unfold State.writeByte; dsimp only
  by_cases h : addr = dmaAddr <;> cases regionOf addr <;> simp only [h, if_true, if_false, State.mbc1Write_romLen] <;>
    split <;> simp

@[simp] theorem State.writeByte_romBanks (s : State) (addr : Word) (v : Byte) :
    (s.writeByte addr v).romBanks = s.romBanks := by
  unfold State.writeByte; dsimp only
  by_cases h : addr = dmaAddr <;> cases regionOf addr <;> simp only [h, if_true, if_false, State.mbc1Write_romBanks] <;>
    split <;> simp

@[simp] theorem State.writeByte_cycleTable (s : State) (addr : Word) (v : Byte) :
    (s.writeByte addr v).cycleTable = s.cycleTable := by
  unfold State.writeByte; dsimp only
  by_cases h : addr = dmaAddr <;> cases regionOf addr <;> simp only [h, if_true, if_false, State.mbc1Write_cycleTable] <;>
    split <;> simp

@[simp] theorem State.writeWord_a (s : State) (addr v : Word) :
    (s.writeWord addr v).a = s.a := by simp [State.writeWord]

@[simp] theorem State.writeWord_f (s : State) (addr v : Word) :
    (s.writeWord addr v).f = s.f := by simp [State.writeWord]

@[simp] theorem State.writeWord_b (s : State) (addr v : Word) :
    (s.writeWord addr v).b = s.b := by simp [State.writeWord]

@[simp] theorem State.writeWord_c (s : State) (addr v : Word) :
    (s.writeWord addr v).c = s.c := by simp [State.writeWord]

@[simp] theorem State.writeWord_d (s : State) (addr v : Word) :
    (s.writeWord addr v).d = s.d := by simp [State.writeWord]

@[simp] theorem State.writeWord_e (s : State) (addr v : Word) :
    (s.writeWord addr v).e = s.e := by simp [State.writeWord]

@[simp] theorem State.writeWord_h (s : State) (addr v : Word) :
    (s.writeWord addr v).h = s.h := by simp [State.writeWord]

@[simp] theorem State.writeWord_l (s : State) (addr v : Word) :
    (s.writeWord addr v).l = s.l := by simp [State.writeWord]

@[simp] theorem State.writeWord_sp (s : State) (addr v : Word) :
    (s.writeWord addr v).sp = s.sp := by simp [State.writeWord]

@[simp] theorem State.writeWord_pc (s : State) (addr v : Word) :
    (s.writeWord addr v).pc = s.pc := by simp [State.writeWord]

@[simp] theorem State.writeWord_ime (s : State) (addr v : Word) :
    (s.writeWord addr v).ime = s.ime := by simp [State.writeWord]

@[simp] theorem State.writeWord_imePending (s : State) (addr v : Word) :
    (s.writeWord addr v).imePending = s.imePending := by simp [State.writeWord]

@[simp] theorem State.writeWord_eiJust (s : State) (addr v : Word) :
    (s.writeWord addr v).eiJust = s.eiJust := by simp [State.writeWord]

@[simp] theorem State.writeWord_halted (s : State) (addr v : Word) :
    (s.writeWord addr v).halted = s.halted := by simp [State.writeWord]

@[simp] theorem State.writeWord_cycles (s : State) (addr v : Word) :
    (s.writeWord addr v).cycles = s.cycles := by simp [State.writeWord]

@[simp] theorem State.writeWord_faultLatch (s : State) (addr v : Word) :
    (s.writeWord addr v).faultLatch = s.faultLatch := by simp [State.writeWord]

@[simp] theorem State.writeWord_rom (s : State) (addr v : Word) :
    (s.writeWord addr v).rom = s.rom := by simp [State.writeWord]

@[simp] theorem State.writeWord_romLen (s : State) (addr v : Word) :
    (s.writeWord addr v).romLen = s.romLen := by simp [State.writeWord]

@[simp] theorem State.writeWord_romBanks (s : State) (addr v : Word) :
    (s.writeWord addr v).romBanks = s.romBanks := by simp [State.writeWord]

@[simp] theorem State.writeWord_cycleTable (s : State) (addr v : Word) :
    (s.writeWord addr v).cycleTable = s.cycleTable := by simp [State.writeWord]

/-! The stack. -/

@[simp] theorem State.push16_a (s : State) (v : Word) :
    (s.push16 v).a = s.a := by simp [State.push16]

@[simp] theorem State.push16_f (s : State) (v : Word) :
    (s.push16 v).f = s.f := by simp [State.push16]

@[simp] theorem State.push16_b (s : State) (v : Word) :
    (s.push16 v).b = s.b := by simp [State.push16]

@[simp] theorem State.push16_c (s : State) (v : Word) :
    (s.push16 v).c = s.c := by simp [State.push16]

@[simp] theorem State.push16_d (s : State) (v : Word) :
    (s.push16 v).d = s.d := by simp [State.push16]

@[simp] theorem State.push16_e (s : State) (v : Word) :
    (s.push16 v).e = s.e := by simp [State.push16]

@[simp] theorem State.push16_h (s : State) (v : Word) :
    (s.push16 v).h = s.h := by simp [State.push16]

@[simp] theorem State.push16_l (s : State) (v : Word) :
    (s.push16 v).l = s.l := by simp [State.push16]

@[simp] theorem State.push16_pc (s : State) (v : Word) :
    (s.push16 v).pc = s.pc := by simp [State.push16]

@[simp] theorem State.push16_ime (s : State) (v : Word) :
    (s.push16 v).ime = s.ime := by simp [State.push16]

@[simp] theorem State.push16_imePending (s : State) (v : Word) :
    (s.push16 v).imePending = s.imePending := by simp [State.push16]

@[simp] theorem State.push16_eiJust (s : State) (v : Word) :
    (s.push16 v).eiJust = s.eiJust := by simp [State.push16]

@[simp] theorem State.push16_halted (s : State) (v : Word) :
    (s.push16 v).halted = s.halted := by simp [State.push16]

@[simp] theorem State.push16_cycles (s : State) (v : Word) :
    (s.push16 v).cycles = s.cycles := by simp [State.push16]

@[simp] theorem State.push16_faultLatch (s : State) (v : Word) :
    (s.push16 v).faultLatch = s.faultLatch := by simp [State.push16]

@[simp] theorem State.push16_rom (s : State) (v : Word) :
    (s.push16 v).rom = s.rom := by simp [State.push16]

@[simp] theorem State.push16_romLen (s : State) (v : Word) :
    (s.push16 v).romLen = s.romLen := by simp [State.push16]

@[simp] theorem State.push16_romBanks (s : State) (v : Word) :
    (s.push16 v).romBanks = s.romBanks := by simp [State.push16]

@[simp] theorem State.push16_cycleTable (s : State) (v : Word) :
    (s.push16 v).cycleTable = s.cycleTable := by simp [State.push16]

@[simp] theorem State.push16_sp (s : State) (v : Word) :
    (s.push16 v).sp = s.sp - 2 := rfl

@[simp] theorem State.popped_a (s : State) :
    (s.popped).a = s.a := rfl

@[simp] theorem State.popped_f (s : State) :
    (s.popped).f = s.f := rfl

@[simp] theorem State.popped_b (s : State) :
    (s.popped).b = s.b := rfl

@[simp] theorem State.popped_c (s : State) :
    (s.popped).c = s.c := rfl

@[simp] theorem State.popped_d (s : State) :
    (s.popped).d = s.d := rfl

@[simp] theorem State.popped_e (s : State) :
    (s.popped).e = s.e := rfl

@[simp] theorem State.popped_h (s : State) :
    (s.popped).h = s.h := rfl

@[simp] theorem State.popped_l (s : State) :
    (s.popped).l = s.l := rfl

@[simp] theorem State.popped_pc (s : State) :
    (s.popped).pc = s.pc := rfl

@[simp] theorem State.popped_ime (s : State) :
    (s.popped).ime = s.ime := rfl

@[simp] theorem State.popped_imePending (s : State) :
    (s.popped).imePending = s.imePending := rfl

@[simp] theorem State.popped_eiJust (s : State) :
    (s.popped).eiJust = s.eiJust := rfl

@[simp] theorem State.popped_halted (s : State) :
    (s.popped).halted = s.halted := rfl

@[simp] theorem State.popped_cycles (s : State) :
    (s.popped).cycles = s.cycles := rfl

@[simp] theorem State.popped_faultLatch (s : State) :
    (s.popped).faultLatch = s.faultLatch := rfl

@[simp] theorem State.popped_vram (s : State) :
    (s.popped).vram = s.vram := rfl

@[simp] theorem State.popped_cartRam (s : State) :
    (s.popped).cartRam = s.cartRam := rfl

@[simp] theorem State.popped_wram (s : State) :
    (s.popped).wram = s.wram := rfl

@[simp] theorem State.popped_oam (s : State) :
    (s.popped).oam = s.oam := rfl

@[simp] theorem State.popped_io (s : State) :
    (s.popped).io = s.io := rfl

@[simp] theorem State.popped_hram (s : State) :
    (s.popped).hram = s.hram := rfl

@[simp] theorem State.popped_ie (s : State) :
    (s.popped).ie = s.ie := rfl

@[simp] theorem State.popped_ramEnable (s : State) :
    (s.popped).ramEnable = s.ramEnable := rfl

@[simp] theorem State.popped_romBankLow5 (s : State) :
    (s.popped).romBankLow5 = s.romBankLow5 := rfl

@[simp] theorem State.popped_romBankHigh2 (s : State) :
    (s.popped).romBankHigh2 = s.romBankHigh2 := rfl

@[simp] theorem State.popped_bankingMode (s : State) :
    (s.popped).bankingMode = s.bankingMode := rfl

@[simp] theorem State.popped_rom (s : State) :
    (s.popped).rom = s.rom := rfl

@[simp] theorem State.popped_romLen (s : State) :
    (s.popped).romLen = s.romLen := rfl

@[simp] theorem State.popped_romBanks (s : State) :
    (s.popped).romBanks = s.romBanks := rfl

@[simp] theorem State.popped_cycleTable (s : State) :
    (s.popped).cycleTable = s.cycleTable := rfl

@[simp] theorem State.popped_sp (s : State) :
    (s.popped).sp = s.sp + 2 := rfl

/-! The interrupt controller, the step. -/

@[simp] theorem State.setIfReg_a (s : State) (v : Byte) :
    (s.setIfReg v).a = s.a := rfl

@[simp] theorem State.setIfReg_f (s : State) (v : Byte) :
    (s.setIfReg v).f = s.f := rfl

@[simp] theorem State.setIfReg_b (s : State) (v : Byte) :
    (s.setIfReg v).b = s.b := rfl

@[simp] theorem State.setIfReg_c (s : State) (v : Byte) :
    (s.setIfReg v).c = s.c := rfl

@[simp] theorem State.setIfReg_d (s : State) (v : Byte) :
    (s.setIfReg v).d = s.d := rfl

@[simp] theorem State.setIfReg_e (s : State) (v : Byte) :
    (s.setIfReg v).e = s.e := rfl

@[simp] theorem State.setIfReg_h (s : State) (v : Byte) :
    (s.setIfReg v).h = s.h := rfl

@[simp] theorem State.setIfReg_l (s : State) (v : Byte) :
    (s.setIfReg v).l = s.l := rfl

@[simp] theorem State.setIfReg_sp (s : State) (v : Byte) :
    (s.setIfReg v).sp = s.sp := rfl

@[simp] theorem State.setIfReg_pc (s : State) (v : Byte) :
    (s.setIfReg v).pc = s.pc := rfl

@[simp] theorem State.setIfReg_ime (s : State) (v : Byte) :
    (s.setIfReg v).ime = s.ime := rfl

@[simp] theorem State.setIfReg_imePending (s : State) (v : Byte) :
    (s.setIfReg v).imePending = s.imePending := rfl

@[simp] theorem State.setIfReg_eiJust (s : State) (v : Byte) :
    (s.setIfReg v).eiJust = s.eiJust := rfl

@[simp] theorem State.setIfReg_halted (s : State) (v : Byte) :
    (s.setIfReg v).halted = s.halted := rfl

@[simp] theorem State.setIfReg_cycles (s : State) (v : Byte) :
    (s.setIfReg v).cycles = s.cycles := rfl

@[simp] theorem State.setIfReg_faultLatch (s : State) (v : Byte) :
    (s.setIfReg v).faultLatch = s.faultLatch := rfl

@[simp] theorem State.setIfReg_vram (s : State) (v : Byte) :
    (s.setIfReg v).vram = s.vram := rfl

@[simp] theorem State.setIfReg_cartRam (s : State) (v : Byte) :
    (s.setIfReg v).cartRam = s.cartRam := rfl

@[simp] theorem State.setIfReg_wram (s : State) (v : Byte) :
    (s.setIfReg v).wram = s.wram := rfl

@[simp] theorem State.setIfReg_oam (s : State) (v : Byte) :
    (s.setIfReg v).oam = s.oam := rfl

@[simp] theorem State.setIfReg_hram (s : State) (v : Byte) :
    (s.setIfReg v).hram = s.hram := rfl

@[simp] theorem State.setIfReg_ie (s : State) (v : Byte) :
    (s.setIfReg v).ie = s.ie := rfl

@[simp] theorem State.setIfReg_ramEnable (s : State) (v : Byte) :
    (s.setIfReg v).ramEnable = s.ramEnable := rfl

@[simp] theorem State.setIfReg_romBankLow5 (s : State) (v : Byte) :
    (s.setIfReg v).romBankLow5 = s.romBankLow5 := rfl

@[simp] theorem State.setIfReg_romBankHigh2 (s : State) (v : Byte) :
    (s.setIfReg v).romBankHigh2 = s.romBankHigh2 := rfl

@[simp] theorem State.setIfReg_bankingMode (s : State) (v : Byte) :
    (s.setIfReg v).bankingMode = s.bankingMode := rfl

@[simp] theorem State.setIfReg_rom (s : State) (v : Byte) :
    (s.setIfReg v).rom = s.rom := rfl

@[simp] theorem State.setIfReg_romLen (s : State) (v : Byte) :
    (s.setIfReg v).romLen = s.romLen := rfl

@[simp] theorem State.setIfReg_romBanks (s : State) (v : Byte) :
    (s.setIfReg v).romBanks = s.romBanks := rfl

@[simp] theorem State.setIfReg_cycleTable (s : State) (v : Byte) :
    (s.setIfReg v).cycleTable = s.cycleTable := rfl

@[simp] theorem State.raise_a (s : State) (src : Source) :
    (s.raise src).a = s.a := rfl

@[simp] theorem State.raise_f (s : State) (src : Source) :
    (s.raise src).f = s.f := rfl

@[simp] theorem State.raise_b (s : State) (src : Source) :
    (s.raise src).b = s.b := rfl

@[simp] theorem State.raise_c (s : State) (src : Source) :
    (s.raise src).c = s.c := rfl

@[simp] theorem State.raise_d (s : State) (src : Source) :
    (s.raise src).d = s.d := rfl

@[simp] theorem State.raise_e (s : State) (src : Source) :
    (s.raise src).e = s.e := rfl

@[simp] theorem State.raise_h (s : State) (src : Source) :
    (s.raise src).h = s.h := rfl

@[simp] theorem State.raise_l (s : State) (src : Source) :
    (s.raise src).l = s.l := rfl

@[simp] theorem State.raise_sp (s : State) (src : Source) :
    (s.raise src).sp = s.sp := rfl

@[simp] theorem State.raise_pc (s : State) (src : Source) :
    (s.raise src).pc = s.pc := rfl

@[simp] theorem State.raise_ime (s : State) (src : Source) :
    (s.raise src).ime = s.ime := rfl

@[simp] theorem State.raise_imePending (s : State) (src : Source) :
    (s.raise src).imePending = s.imePending := rfl

@[simp] theorem State.raise_eiJust (s : State) (src : Source) :
    (s.raise src).eiJust = s.eiJust := rfl

@[simp] theorem State.raise_halted (s : State) (src : Source) :
    (s.raise src).halted = s.halted := rfl

@[simp] theorem State.raise_cycles (s : State) (src : Source) :
    (s.raise src).cycles = s.cycles := rfl

@[simp] theorem State.raise_faultLatch (s : State) (src : Source) :
    (s.raise src).faultLatch = s.faultLatch := rfl

@[simp] theorem State.raise_vram (s : State) (src : Source) :
    (s.raise src).vram = s.vram := rfl

@[simp] theorem State.raise_cartRam (s : State) (src : Source) :
    (s.raise src).cartRam = s.cartRam := rfl

@[simp] theorem State.raise_wram (s : State) (src : Source) :
    (s.raise src).wram = s.wram := rfl

@[simp] theorem State.raise_oam (s : State) (src : Source) :
    (s.raise src).oam = s.oam := rfl

@[simp] theorem State.raise_hram (s : State) (src : Source) :
    (s.raise src).hram = s.hram := rfl

@[simp] theorem State.raise_ie (s : State) (src : Source) :
    (s.raise src).ie = s.ie := rfl

@[simp] theorem State.raise_ramEnable (s : State) (src : Source) :
    (s.raise src).ramEnable = s.ramEnable := rfl

@[simp] theorem State.raise_romBankLow5 (s : State) (src : Source) :
    (s.raise src).romBankLow5 = s.romBankLow5 := rfl

@[simp] theorem State.raise_romBankHigh2 (s : State) (src : Source) :
    (s.raise src).romBankHigh2 = s.romBankHigh2 := rfl

@[simp] theorem State.raise_bankingMode (s : State) (src : Source) :
    (s.raise src).bankingMode = s.bankingMode := rfl

@[simp] theorem State.raise_rom (s : State) (src : Source) :
    (s.raise src).rom = s.rom := rfl

@[simp] theorem State.raise_romLen (s : State) (src : Source) :
    (s.raise src).romLen = s.romLen := rfl

@[simp] theorem State.raise_romBanks (s : State) (src : Source) :
    (s.raise src).romBanks = s.romBanks := rfl

@[simp] theorem State.raise_cycleTable (s : State) (src : Source) :
    (s.raise src).cycleTable = s.cycleTable := rfl

@[simp] theorem State.clearRequest_a (s : State) (src : Source) :
    (s.clearRequest src).a = s.a := rfl

@[simp] theorem State.clearRequest_f (s : State) (src : Source) :
    (s.clearRequest src).f = s.f := rfl

@[simp] theorem State.clearRequest_b (s : State) (src : Source) :
    (s.clearRequest src).b = s.b := rfl

@[simp] theorem State.clearRequest_c (s : State) (src : Source) :
    (s.clearRequest src).c = s.c := rfl

@[simp] theorem State.clearRequest_d (s : State) (src : Source) :
    (s.clearRequest src).d = s.d := rfl

@[simp] theorem State.clearRequest_e (s : State) (src : Source) :
    (s.clearRequest src).e = s.e := rfl

@[simp] theorem State.clearRequest_h (s : State) (src : Source) :
    (s.clearRequest src).h = s.h := rfl

@[simp] theorem State.clearRequest_l (s : State) (src : Source) :
    (s.clearRequest src).l = s.l := rfl

@[simp] theorem State.clearRequest_sp (s : State) (src : Source) :
    (s.clearRequest src).sp = s.sp := rfl

@[simp] theorem State.clearRequest_pc (s : State) (src : Source) :
    (s.clearRequest src).pc = s.pc := rfl

@[simp] theorem State.clearRequest_ime (s : State) (src : Source) :
    (s.clearRequest src).ime = s.ime := rfl

@[simp] theorem State.clearRequest_imePending (s : State) (src : Source) :
    (s.clearRequest src).imePending = s.imePending := rfl

@[simp] theorem State.clearRequest_eiJust (s : State) (src : Source) :
    (s.clearRequest src).eiJust = s.eiJust := rfl

@[simp] theorem State.clearRequest_halted (s : State) (src : Source) :
    (s.clearRequest src).halted = s.halted := rfl

@[simp] theorem State.clearRequest_cycles (s : State) (src : Source) :
    (s.clearRequest src).cycles = s.cycles := rfl

@[simp] theorem State.clearRequest_faultLatch (s : State) (src : Source) :
    (s.clearRequest src).faultLatch = s.faultLatch := rfl

@[simp] theorem State.clearRequest_vram (s : State) (src : Source) :
    (s.clearRequest src).vram = s.vram := rfl

@[simp] theorem State.clearRequest_cartRam (s : State) (src : Source) :
    (s.clearRequest src).cartRam = s.cartRam := rfl

@[simp] theorem State.clearRequest_wram (s : State) (src : Source) :
    (s.clearRequest src).wram = s.wram := rfl

@[simp] theorem State.clearRequest_oam (s : State) (src : Source) :
    (s.clearRequest src).oam = s.oam := rfl

@[simp] theorem State.clearRequest_hram (s : State) (src : Source) :
    (s.clearRequest src).hram = s.hram := rfl

@[simp] theorem State.clearRequest_ie (s : State) (src : Source) :
    (s.clearRequest src).ie = s.ie := rfl

@[simp] theorem State.clearRequest_ramEnable (s : State) (src : Source) :
    (s.clearRequest src).ramEnable = s.ramEnable := rfl

@[simp] theorem State.clearRequest_romBankLow5 (s : State) (src : Source) :
    (s.clearRequest src).romBankLow5 = s.romBankLow5 := rfl

@[simp] theorem State.clearRequest_romBankHigh2 (s : State) (src : Source) :
    (s.clearRequest src).romBankHigh2 = s.romBankHigh2 := rfl

@[simp] theorem State.clearRequest_bankingMode (s : State) (src : Source) :
    (s.clearRequest src).bankingMode = s.bankingMode := rfl

@[simp] theorem State.clearRequest_rom (s : State) (src : Source) :
    (s.clearRequest src).rom = s.rom := rfl

@[simp] theorem State.clearRequest_romLen (s : State) (src : Source) :
    (s.clearRequest src).romLen = s.romLen := rfl

@[simp] theorem State.clearRequest_romBanks (s : State) (src : Source) :
    (s.clearRequest src).romBanks = s.romBanks := rfl

@[simp] theorem State.clearRequest_cycleTable (s : State) (src : Source) :
    (s.clearRequest src).cycleTable = s.cycleTable := rfl

@[simp] theorem State.raiseIllegal_a (s : State) (op : Byte) :
    (s.raiseIllegal op).a = s.a := rfl

@[simp] theorem State.raiseIllegal_f (s : State) (op : Byte) :
    (s.raiseIllegal op).f = s.f := rfl

@[simp] theorem State.raiseIllegal_b (s : State) (op : Byte) :
    (s.raiseIllegal op).b = s.b := rfl

@[simp] theorem State.raiseIllegal_c (s : State) (op : Byte) :
    (s.raiseIllegal op).c = s.c := rfl

@[simp] theorem State.raiseIllegal_d (s : State) (op : Byte) :
    (s.raiseIllegal op).d = s.d := rfl

@[simp] theorem State.raiseIllegal_e (s : State) (op : Byte) :
    (s.raiseIllegal op).e = s.e := rfl

@[simp] theorem State.raiseIllegal_h (s : State) (op : Byte) :
    (s.raiseIllegal op).h = s.h := rfl

@[simp] theorem State.raiseIllegal_l (s : State) (op : Byte) :
    (s.raiseIllegal op).l = s.l := rfl

@[simp] theorem State.raiseIllegal_sp (s : State) (op : Byte) :
    (s.raiseIllegal op).sp = s.sp := rfl

@[simp] theorem State.raiseIllegal_ime (s : State) (op : Byte) :
    (s.raiseIllegal op).ime = s.ime := rfl

@[simp] theorem State.raiseIllegal_imePending (s : State) (op : Byte) :
    (s.raiseIllegal op).imePending = s.imePending := rfl

@[simp] theorem State.raiseIllegal_eiJust (s : State) (op : Byte) :
    (s.raiseIllegal op).eiJust = s.eiJust := rfl

@[simp] theorem State.raiseIllegal_halted (s : State) (op : Byte) :
    (s.raiseIllegal op).halted = s.halted := rfl

@[simp] theorem State.raiseIllegal_cycles (s : State) (op : Byte) :
    (s.raiseIllegal op).cycles = s.cycles := rfl

@[simp] theorem State.raiseIllegal_vram (s : State) (op : Byte) :
    (s.raiseIllegal op).vram = s.vram := rfl

@[simp] theorem State.raiseIllegal_cartRam (s : State) (op : Byte) :
    (s.raiseIllegal op).cartRam = s.cartRam := rfl

@[simp] theorem State.raiseIllegal_wram (s : State) (op : Byte) :
    (s.raiseIllegal op).wram = s.wram := rfl

@[simp] theorem State.raiseIllegal_oam (s : State) (op : Byte) :
    (s.raiseIllegal op).oam = s.oam := rfl

@[simp] theorem State.raiseIllegal_io (s : State) (op : Byte) :
    (s.raiseIllegal op).io = s.io := rfl

@[simp] theorem State.raiseIllegal_hram (s : State) (op : Byte) :
    (s.raiseIllegal op).hram = s.hram := rfl

@[simp] theorem State.raiseIllegal_ie (s : State) (op : Byte) :
    (s.raiseIllegal op).ie = s.ie := rfl

@[simp] theorem State.raiseIllegal_ramEnable (s : State) (op : Byte) :
    (s.raiseIllegal op).ramEnable = s.ramEnable := rfl

@[simp] theorem State.raiseIllegal_romBankLow5 (s : State) (op : Byte) :
    (s.raiseIllegal op).romBankLow5 = s.romBankLow5 := rfl

@[simp] theorem State.raiseIllegal_romBankHigh2 (s : State) (op : Byte) :
    (s.raiseIllegal op).romBankHigh2 = s.romBankHigh2 := rfl

@[simp] theorem State.raiseIllegal_bankingMode (s : State) (op : Byte) :
    (s.raiseIllegal op).bankingMode = s.bankingMode := rfl

@[simp] theorem State.raiseIllegal_rom (s : State) (op : Byte) :
    (s.raiseIllegal op).rom = s.rom := rfl

@[simp] theorem State.raiseIllegal_romLen (s : State) (op : Byte) :
    (s.raiseIllegal op).romLen = s.romLen := rfl

@[simp] theorem State.raiseIllegal_romBanks (s : State) (op : Byte) :
    (s.raiseIllegal op).romBanks = s.romBanks := rfl

@[simp] theorem State.raiseIllegal_cycleTable (s : State) (op : Byte) :
    (s.raiseIllegal op).cycleTable = s.cycleTable := rfl

@[simp] theorem State.addCycles_a (s : State) (n : Nat) :
    (s.addCycles n).a = s.a := rfl

@[simp] theorem State.addCycles_f (s : State) (n : Nat) :
    (s.addCycles n).f = s.f := rfl

@[simp] theorem State.addCycles_b (s : State) (n : Nat) :
    (s.addCycles n).b = s.b := rfl

@[simp] theorem State.addCycles_c (s : State) (n : Nat) :
    (s.addCycles n).c = s.c := rfl

@[simp] theorem State.addCycles_d (s : State) (n : Nat) :
    (s.addCycles n).d = s.d := rfl

@[simp] theorem State.addCycles_e (s : State) (n : Nat) :
    (s.addCycles n).e = s.e := rfl

@[simp] theorem State.addCycles_h (s : State) (n : Nat) :
    (s.addCycles n).h = s.h := rfl

@[simp] theorem State.addCycles_l (s : State) (n : Nat) :
    (s.addCycles n).l = s.l := rfl

@[simp] theorem State.addCycles_sp (s : State) (n : Nat) :
    (s.addCycles n).sp = s.sp := rfl

@[simp] theorem State.addCycles_pc (s : State) (n : Nat) :
    (s.addCycles n).pc = s.pc := rfl

@[simp] theorem State.addCycles_ime (s : State) (n : Nat) :
    (s.addCycles n).ime = s.ime := rfl

@[simp] theorem State.addCycles_imePending (s : State) (n : Nat) :
    (s.addCycles n).imePending = s.imePending := rfl

@[simp] theorem State.addCycles_eiJust (s : State) (n : Nat) :
    (s.addCycles n).eiJust = s.eiJust := rfl

@[simp] theorem State.addCycles_halted (s : State) (n : Nat) :
    (s.addCycles n).halted = s.halted := rfl

@[simp] theorem State.addCycles_faultLatch (s : State) (n : Nat) :
    (s.addCycles n).faultLatch = s.faultLatch := rfl

@[simp] theorem State.addCycles_vram (s : State) (n : Nat) :
    (s.addCycles n).vram = s.vram := rfl

@[simp] theorem State.addCycles_cartRam (s : State) (n : Nat) :
    (s.addCycles n).cartRam = s.cartRam := rfl

@[simp] theorem State.addCycles_wram (s : State) (n : Nat) :
    (s.addCycles n).wram = s.wram := rfl

@[simp] theorem State.addCycles_oam (s : State) (n : Nat) :
    (s.addCycles n).oam = s.oam := rfl

@[simp] theorem State.addCycles_io (s : State) (n : Nat) :
    (s.addCycles n).io = s.io := rfl

@[simp] theorem State.addCycles_hram (s : State) (n : Nat) :
    (s.addCycles n).hram = s.hram := rfl

@[simp] theorem State.addCycles_ie (s : State) (n : Nat) :
    (s.addCycles n).ie = s.ie := rfl

@[simp] theorem State.addCycles_ramEnable (s : State) (n : Nat) :
    (s.addCycles n).ramEnable = s.ramEnable := rfl

@[simp] theorem State.addCycles_romBankLow5 (s : State) (n : Nat) :
    (s.addCycles n).romBankLow5 = s.romBankLow5 := rfl

@[simp] theorem State.addCycles_romBankHigh2 (s : State) (n : Nat) :
    (s.addCycles n).romBankHigh2 = s.romBankHigh2 := rfl

@[simp] theorem State.addCycles_bankingMode (s : State) (n : Nat) :
    (s.addCycles n).bankingMode = s.bankingMode := rfl

@[simp] theorem State.addCycles_rom (s : State) (n : Nat) :
    (s.addCycles n).rom = s.rom := rfl

@[simp] theorem State.addCycles_romLen (s : State) (n : Nat) :
    (s.addCycles n).romLen = s.romLen := rfl

@[simp] theorem State.addCycles_romBanks (s : State) (n : Nat) :
    (s.addCycles n).romBanks = s.romBanks := rfl

@[simp] theorem State.addCycles_cycleTable (s : State) (n : Nat) :
    (s.addCycles n).cycleTable = s.cycleTable := rfl

@[simp] theorem State.addCycles_cycles (s : State) (n : Nat) :
    (s.addCycles n).cycles = s.cycles + BitVec.ofNat 64 n := rfl

@[simp] theorem State.commitEI_a (s : State) :
    (s.commitEI).a = s.a := by
  unfold State.commitEI; split_ifs <;> rfl

@[simp] theorem State.commitEI_f (s : State) :
    (s.commitEI).f = s.f := by
  unfold State.commitEI; split_ifs <;> rfl

@[simp] theorem State.commitEI_b (s : State) :
    (s.commitEI).b = s.b := by
  unfold State.commitEI; split_ifs <;> rfl

@[simp] theorem State.commitEI_c (s : State) :
    (s.commitEI).c = s.c := by
  unfold State.commitEI; split_ifs <;> rfl

@[simp] theorem State.commitEI_d (s : State) :
    (s.commitEI).d = s.d := by
  unfold State.commitEI; split_ifs <;> rfl

@[simp] theorem State.commitEI_e (s : State) :
    (s.commitEI).e = s.e := by
  unfold State.commitEI; split_ifs <;> rfl

@[simp] theorem State.commitEI_h (s : State) :
    (s.commitEI).h = s.h := by
  unfold State.commitEI; split_ifs <;> rfl

@[simp] theorem State.commitEI_l (s : State) :
    (s.commitEI).l = s.l := by
  unfold State.commitEI; split_ifs <;> rfl

@[simp] theorem State.commitEI_sp (s : State) :
    (s.commitEI).sp = s.sp := by
  unfold State.commitEI; split_ifs <;> rfl

@[simp] theorem State.commitEI_pc (s : State) :
    (s.commitEI).pc = s.pc := by
  unfold State.commitEI; split_ifs <;> rfl

@[simp] theorem State.commitEI_halted (s : State) :
    (s.commitEI).halted = s.halted := by
  unfold State.commitEI; split_ifs <;> rfl

@[simp] theorem State.commitEI_cycles (s : State) :
    (s.commitEI).cycles = s.cycles := by
  unfold State.commitEI; split_ifs <;> rfl

@[simp] theorem State.commitEI_faultLatch (s : State) :
    (s.commitEI).faultLatch = s.faultLatch := by
  unfold State.commitEI; split_ifs <;> rfl

@[simp] theorem State.commitEI_vram (s : State) :
    (s.commitEI).vram = s.vram := by
  unfold State.commitEI; split_ifs <;> rfl

@[simp] theorem State.commitEI_cartRam (s : State) :
    (s.commitEI).cartRam = s.cartRam := by
  unfold State.commitEI; split_ifs <;> rfl

@[simp] theorem State.commitEI_wram (s : State) :
    (s.commitEI).wram = s.wram := by
  unfold State.commitEI; split_ifs <;> rfl

@[simp] theorem State.commitEI_oam (s : State) :
    (s.commitEI).oam = s.oam := by
  unfold State.commitEI; split_ifs <;> rfl

@[simp] theorem State.commitEI_io (s : State) :
    (s.commitEI).io = s.io := by
  unfold State.commitEI; split_ifs <;> rfl

@[simp] theorem State.commitEI_hram (s : State) :
    (s.commitEI).hram = s.hram := by
  unfold State.commitEI; split_ifs <;> rfl

@[simp] theorem State.commitEI_ie (s : State) :
    (s.commitEI).ie = s.ie := by
  unfold State.commitEI; split_ifs <;> rfl

@[simp] theorem State.commitEI_ramEnable (s : State) :
    (s.commitEI).ramEnable = s.ramEnable := by
  unfold State.commitEI; split_ifs <;> rfl

@[simp] theorem State.commitEI_romBankLow5 (s : State) :
    (s.commitEI).romBankLow5 = s.romBankLow5 := by
  unfold State.commitEI; split_ifs <;> rfl

@[simp] theorem State.commitEI_romBankHigh2 (s : State) :
    (s.commitEI).romBankHigh2 = s.romBankHigh2 := by
  unfold State.commitEI; split_ifs <;> rfl

@[simp] theorem State.commitEI_bankingMode (s : State) :
    (s.commitEI).bankingMode = s.bankingMode := by
  unfold State.commitEI; split_ifs <;> rfl

@[simp] theorem State.commitEI_rom (s : State) :
    (s.commitEI).rom = s.rom := by
  unfold State.commitEI; split_ifs <;> rfl

@[simp] theorem State.commitEI_romLen (s : State) :
    (s.commitEI).romLen = s.romLen := by
  unfold State.commitEI; split_ifs <;> rfl

@[simp] theorem State.commitEI_romBanks (s : State) :
    (s.commitEI).romBanks = s.romBanks := by
  unfold State.commitEI; split_ifs <;> rfl

@[simp] theorem State.commitEI_cycleTable (s : State) :
    (s.commitEI).cycleTable = s.cycleTable := by
  unfold State.commitEI; split_ifs <;> rfl

@[simp] theorem State.awake_a (s : State) :
    (s.awake).a = s.a := rfl

@[simp] theorem State.awake_f (s : State) :
    (s.awake).f = s.f := rfl

@[simp] theorem State.awake_b (s : State) :
    (s.awake).b = s.b := rfl

@[simp] theorem State.awake_c (s : State) :
    (s.awake).c = s.c := rfl

@[simp] theorem State.awake_d (s : State) :
    (s.awake).d = s.d := rfl

@[simp] theorem State.awake_e (s : State) :
    (s.awake).e = s.e := rfl

@[simp] theorem State.awake_h (s : State) :
    (s.awake).h = s.h := rfl

@[simp] theorem State.awake_l (s : State) :
    (s.awake).l = s.l := rfl

@[simp] theorem State.awake_sp (s : State) :
    (s.awake).sp = s.sp := rfl

@[simp] theorem State.awake_pc (s : State) :
    (s.awake).pc = s.pc := rfl

@[simp] theorem State.awake_ime (s : State) :
    (s.awake).ime = s.ime := rfl

@[simp] theorem State.awake_imePending (s : State) :
    (s.awake).imePending = s.imePending := rfl

@[simp] theorem State.awake_eiJust (s : State) :
    (s.awake).eiJust = s.eiJust := rfl

@[simp] theorem State.awake_cycles (s : State) :
    (s.awake).cycles = s.cycles := rfl

@[simp] theorem State.awake_faultLatch (s : State) :
    (s.awake).faultLatch = s.faultLatch := rfl

@[simp] theorem State.awake_vram (s : State) :
    (s.awake).vram = s.vram := rfl

@[simp] theorem State.awake_cartRam (s : State) :
    (s.awake).cartRam = s.cartRam := rfl

@[simp] theorem State.awake_wram (s : State) :
    (s.awake).wram = s.wram := rfl

@[simp] theorem State.awake_oam (s : State) :
    (s.awake).oam = s.oam := rfl

@[simp] theorem State.awake_io (s : State) :
    (s.awake).io = s.io := rfl

@[simp] theorem State.awake_hram (s : State) :
    (s.awake).hram = s.hram := rfl

@[simp] theorem State.awake_ie (s : State) :
    (s.awake).ie = s.ie := rfl

@[simp] theorem State.awake_ramEnable (s : State) :
    (s.awake).ramEnable = s.ramEnable := rfl

@[simp] theorem State.awake_romBankLow5 (s : State) :
    (s.awake).romBankLow5 = s.romBankLow5 := rfl

@[simp] theorem State.awake_romBankHigh2 (s : State) :
    (s.awake).romBankHigh2 = s.romBankHigh2 := rfl

@[simp] theorem State.awake_bankingMode (s : State) :
    (s.awake).bankingMode = s.bankingMode := rfl

@[simp] theorem State.awake_rom (s : State) :
    (s.awake).rom = s.rom := rfl

@[simp] theorem State.awake_romLen (s : State) :
    (s.awake).romLen = s.romLen := rfl

@[simp] theorem State.awake_romBanks (s : State) :
    (s.awake).romBanks = s.romBanks := rfl

@[simp] theorem State.awake_cycleTable (s : State) :
    (s.awake).cycleTable = s.cycleTable := rfl

@[simp] theorem State.awake_halted (s : State) :
    (s.awake).halted = false := rfl

@[simp] theorem State.wake_a (s : State) :
    (s.wake).a = s.a := by
  unfold State.wake; split_ifs <;> rfl

@[simp] theorem State.wake_f (s : State) :
    (s.wake).f = s.f := by
  unfold State.wake; split_ifs <;> rfl

@[simp] theorem State.wake_b (s : State) :
    (s.wake).b = s.b := by
  unfold State.wake; split_ifs <;> rfl

@[simp] theorem State.wake_c (s : State) :
    (s.wake).c = s.c := by
  unfold State.wake; split_ifs <;> rfl

@[simp] theorem State.wake_d (s : State) :
    (s.wake).d = s.d := by
  unfold State.wake; split_ifs <;> rfl

@[simp] theorem State.wake_e (s : State) :
    (s.wake).e = s.e := by
  unfold State.wake; split_ifs <;> rfl

@[simp] theorem State.wake_h (s : State) :
    (s.wake).h = s.h := by
  unfold State.wake; split_ifs <;> rfl

@[simp] theorem State.wake_l (s : State) :
    (s.wake).l = s.l := by
  unfold State.wake; split_ifs <;> rfl

@[simp] theorem State.wake_sp (s : State) :
    (s.wake).sp = s.sp := by
  unfold State.wake; split_ifs <;> rfl

@[simp] theorem State.wake_pc (s : State) :
    (s.wake).pc = s.pc := by
  unfold State.wake; split_ifs <;> rfl

@[simp] theorem State.wake_ime (s : State) :
    (s.wake).ime = s.ime := by
  unfold State.wake; split_ifs <;> rfl

@[simp] theorem State.wake_imePending (s : State) :
    (s.wake).imePending = s.imePending := by
  unfold State.wake; split_ifs <;> rfl

@[simp] theorem State.wake_eiJust (s : State) :
    (s.wake).eiJust = s.eiJust := by
  unfold State.wake; split_ifs <;> rfl

@[simp] theorem State.wake_cycles (s : State) :
    (s.wake).cycles = s.cycles := by
  unfold State.wake; split_ifs <;> rfl

@[simp] theorem State.wake_faultLatch (s : State) :
    (s.wake).faultLatch = s.faultLatch := by
  unfold State.wake; split_ifs <;> rfl

@[simp] theorem State.wake_vram (s : State) :
    (s.wake).vram = s.vram := by
  unfold State.wake; split_ifs <;> rfl

@[simp] theorem State.wake_cartRam (s : State) :
    (s.wake).cartRam = s.cartRam := by
  unfold State.wake; split_ifs <;> rfl

@[simp] theorem State.wake_wram (s : State) :
    (s.wake).wram = s.wram := by
  unfold State.wake; split_ifs <;> rfl

@[simp] theorem State.wake_oam (s : State) :
    (s.wake).oam = s.oam := by
  unfold State.wake; split_ifs <;> rfl

@[simp] theorem State.wake_io (s : State) :
    (s.wake).io = s.io := by
  unfold State.wake; split_ifs <;> rfl

@[simp] theorem State.wake_hram (s : State) :
    (s.wake).hram = s.hram := by
  unfold State.wake; split_ifs <;> rfl

@[simp] theorem State.wake_ie (s : State) :
    (s.wake).ie = s.ie := by
  unfold State.wake; split_ifs <;> rfl

@[simp] theorem State.wake_ramEnable (s : State) :
    (s.wake).ramEnable = s.ramEnable := by
  unfold State.wake; split_ifs <;> rfl

@[simp] theorem State.wake_romBankLow5 (s : State) :
    (s.wake).romBankLow5 = s.romBankLow5 := by
  unfold State.wake; split_ifs <;> rfl

@[simp] theorem State.wake_romBankHigh2 (s : State) :
    (s.wake).romBankHigh2 = s.romBankHigh2 := by
  unfold State.wake; split_ifs <;> rfl

@[simp] theorem State.wake_bankingMode (s : State) :
    (s.wake).bankingMode = s.bankingMode := by
  unfold State.wake; split_ifs <;> rfl

@[simp] theorem State.wake_rom (s : State) :
    (s.wake).rom = s.rom := by
  unfold State.wake; split_ifs <;> rfl

@[simp] theorem State.wake_romLen (s : State) :
    (s.wake).romLen = s.romLen := by
  unfold State.wake; split_ifs <;> rfl

@[simp] theorem State.wake_romBanks (s : State) :
    (s.wake).romBanks = s.romBanks := by
  unfold State.wake; split_ifs <;> rfl

@[simp] theorem State.wake_cycleTable (s : State) :
    (s.wake).cycleTable = s.cycleTable := by
  unfold State.wake; split_ifs <;> rfl

end Sys2Proof.Machine
end

