-- ==== Sys2Proof/Laws/Mmu.lean ====
section
/-! SUPPORT. What a byte access can do: the regions as ranges, where an address lives, a read after a store, and the
four shapes a store can have. -/

namespace Sys2Proof.Machine

/-! The regions as ranges of addresses (R60). -/

/-- Every address is in one range, and its region is the range's. -/
theorem regionOf_cases (a : Word) :
    (a.toNat ≤ 0x3FFF ∧ regionOf a = .rom0)
    ∨ (0x4000 ≤ a.toNat ∧ a.toNat ≤ 0x7FFF ∧ regionOf a = .romX)
    ∨ (0x8000 ≤ a.toNat ∧ a.toNat ≤ 0x9FFF ∧ regionOf a = .vram)
    ∨ (0xA000 ≤ a.toNat ∧ a.toNat ≤ 0xBFFF ∧ regionOf a = .cartRam)
    ∨ (0xC000 ≤ a.toNat ∧ a.toNat ≤ 0xCFFF ∧ regionOf a = .wram0)
    ∨ (0xD000 ≤ a.toNat ∧ a.toNat ≤ 0xDFFF ∧ regionOf a = .wram1)
    ∨ (0xE000 ≤ a.toNat ∧ a.toNat ≤ 0xFDFF ∧ regionOf a = .echo)
    ∨ (0xFE00 ≤ a.toNat ∧ a.toNat ≤ 0xFE9F ∧ regionOf a = .oam)
    ∨ (0xFEA0 ≤ a.toNat ∧ a.toNat ≤ 0xFEFF ∧ regionOf a = .prohibited)
    ∨ (0xFF00 ≤ a.toNat ∧ a.toNat ≤ 0xFF7F ∧ regionOf a = .io)
    ∨ (0xFF80 ≤ a.toNat ∧ a.toNat ≤ 0xFFFE ∧ regionOf a = .hram)
    ∨ (a.toNat = 0xFFFF ∧ regionOf a = .ie) := by
  have := a.isLt
  unfold regionOf
  generalize a.toNat = n at *
  simp only
  by_cases h1 : n ≤ 0x3FFF
  · rw [if_pos h1]; exact .inl ⟨h1, rfl⟩
  rw [if_neg h1]; right
  by_cases h2 : n ≤ 0x7FFF
  · rw [if_pos h2]; exact .inl ⟨by omega, h2, rfl⟩
  rw [if_neg h2]; right
  by_cases h3 : n ≤ 0x9FFF
  · rw [if_pos h3]; exact .inl ⟨by omega, h3, rfl⟩
  rw [if_neg h3]; right
  by_cases h3 : n ≤ 0xBFFF
  · rw [if_pos h3]; exact .inl ⟨by omega, h3, rfl⟩
  rw [if_neg h3]; right
  by_cases h3 : n ≤ 0xCFFF
  · rw [if_pos h3]; exact .inl ⟨by omega, h3, rfl⟩
  rw [if_neg h3]; right
  by_cases h3 : n ≤ 0xDFFF
  · rw [if_pos h3]; exact .inl ⟨by omega, h3, rfl⟩
  rw [if_neg h3]; right
  by_cases h3 : n ≤ 0xFDFF
  · rw [if_pos h3]; exact .inl ⟨by omega, h3, rfl⟩
  rw [if_neg h3]; right
  by_cases h3 : n ≤ 0xFE9F
  · rw [if_pos h3]; exact .inl ⟨by omega, h3, rfl⟩
  rw [if_neg h3]; right
  by_cases h3 : n ≤ 0xFEFF
  · rw [if_pos h3]; exact .inl ⟨by omega, h3, rfl⟩
  rw [if_neg h3]; right
  by_cases h3 : n ≤ 0xFF7F
  · rw [if_pos h3]; exact .inl ⟨by omega, h3, rfl⟩
  rw [if_neg h3]; right
  by_cases h3 : n ≤ 0xFFFE
  · rw [if_pos h3]; exact .inl ⟨by omega, h3, rfl⟩
  rw [if_neg h3]; right
  exact ⟨by omega, rfl⟩

theorem regionOf_rom0 (a : Word) : regionOf a = .rom0 ↔ a.toNat ≤ 0x3FFF := by
  rcases regionOf_cases a with ⟨_, h⟩ | ⟨_, _, h⟩ | ⟨_, _, h⟩ | ⟨_, _, h⟩ | ⟨_, _, h⟩ | ⟨_, _, h⟩ | ⟨_, _, h⟩ | ⟨_, _, h⟩ | ⟨_, _, h⟩ | ⟨_, _, h⟩ | ⟨_, _, h⟩ | ⟨_, h⟩ <;>
    simp only [h, reduceCtorEq, true_iff, false_iff] <;> omega

theorem regionOf_romX (a : Word) : regionOf a = .romX ↔ 0x4000 ≤ a.toNat ∧ a.toNat ≤ 0x7FFF := by
  rcases regionOf_cases a with ⟨_, h⟩ | ⟨_, _, h⟩ | ⟨_, _, h⟩ | ⟨_, _, h⟩ | ⟨_, _, h⟩ | ⟨_, _, h⟩ | ⟨_, _, h⟩ | ⟨_, _, h⟩ | ⟨_, _, h⟩ | ⟨_, _, h⟩ | ⟨_, _, h⟩ | ⟨_, h⟩ <;>
    simp only [h, reduceCtorEq, true_iff, false_iff] <;> omega

theorem regionOf_vram (a : Word) : regionOf a = .vram ↔ 0x8000 ≤ a.toNat ∧ a.toNat ≤ 0x9FFF := by
  rcases regionOf_cases a with ⟨_, h⟩ | ⟨_, _, h⟩ | ⟨_, _, h⟩ | ⟨_, _, h⟩ | ⟨_, _, h⟩ | ⟨_, _, h⟩ | ⟨_, _, h⟩ | ⟨_, _, h⟩ | ⟨_, _, h⟩ | ⟨_, _, h⟩ | ⟨_, _, h⟩ | ⟨_, h⟩ <;>
    simp only [h, reduceCtorEq, true_iff, false_iff] <;> omega

theorem regionOf_cartRam (a : Word) : regionOf a = .cartRam ↔ 0xA000 ≤ a.toNat ∧ a.toNat ≤ 0xBFFF := by
  rcases regionOf_cases a with ⟨_, h⟩ | ⟨_, _, h⟩ | ⟨_, _, h⟩ | ⟨_, _, h⟩ | ⟨_, _, h⟩ | ⟨_, _, h⟩ | ⟨_, _, h⟩ | ⟨_, _, h⟩ | ⟨_, _, h⟩ | ⟨_, _, h⟩ | ⟨_, _, h⟩ | ⟨_, h⟩ <;>
    simp only [h, reduceCtorEq, true_iff, false_iff] <;> omega

theorem regionOf_wram0 (a : Word) : regionOf a = .wram0 ↔ 0xC000 ≤ a.toNat ∧ a.toNat ≤ 0xCFFF := by
  rcases regionOf_cases a with ⟨_, h⟩ | ⟨_, _, h⟩ | ⟨_, _, h⟩ | ⟨_, _, h⟩ | ⟨_, _, h⟩ | ⟨_, _, h⟩ | ⟨_, _, h⟩ | ⟨_, _, h⟩ | ⟨_, _, h⟩ | ⟨_, _, h⟩ | ⟨_, _, h⟩ | ⟨_, h⟩ <;>
    simp only [h, reduceCtorEq, true_iff, false_iff] <;> omega

theorem regionOf_wram1 (a : Word) : regionOf a = .wram1 ↔ 0xD000 ≤ a.toNat ∧ a.toNat ≤ 0xDFFF := by
  rcases regionOf_cases a with ⟨_, h⟩ | ⟨_, _, h⟩ | ⟨_, _, h⟩ | ⟨_, _, h⟩ | ⟨_, _, h⟩ | ⟨_, _, h⟩ | ⟨_, _, h⟩ | ⟨_, _, h⟩ | ⟨_, _, h⟩ | ⟨_, _, h⟩ | ⟨_, _, h⟩ | ⟨_, h⟩ <;>
    simp only [h, reduceCtorEq, true_iff, false_iff] <;> omega

theorem regionOf_echo (a : Word) : regionOf a = .echo ↔ 0xE000 ≤ a.toNat ∧ a.toNat ≤ 0xFDFF := by
  rcases regionOf_cases a with ⟨_, h⟩ | ⟨_, _, h⟩ | ⟨_, _, h⟩ | ⟨_, _, h⟩ | ⟨_, _, h⟩ | ⟨_, _, h⟩ | ⟨_, _, h⟩ | ⟨_, _, h⟩ | ⟨_, _, h⟩ | ⟨_, _, h⟩ | ⟨_, _, h⟩ | ⟨_, h⟩ <;>
    simp only [h, reduceCtorEq, true_iff, false_iff] <;> omega

theorem regionOf_oam (a : Word) : regionOf a = .oam ↔ 0xFE00 ≤ a.toNat ∧ a.toNat ≤ 0xFE9F := by
  rcases regionOf_cases a with ⟨_, h⟩ | ⟨_, _, h⟩ | ⟨_, _, h⟩ | ⟨_, _, h⟩ | ⟨_, _, h⟩ | ⟨_, _, h⟩ | ⟨_, _, h⟩ | ⟨_, _, h⟩ | ⟨_, _, h⟩ | ⟨_, _, h⟩ | ⟨_, _, h⟩ | ⟨_, h⟩ <;>
    simp only [h, reduceCtorEq, true_iff, false_iff] <;> omega

theorem regionOf_prohibited (a : Word) : regionOf a = .prohibited ↔ 0xFEA0 ≤ a.toNat ∧ a.toNat ≤ 0xFEFF := by
  rcases regionOf_cases a with ⟨_, h⟩ | ⟨_, _, h⟩ | ⟨_, _, h⟩ | ⟨_, _, h⟩ | ⟨_, _, h⟩ | ⟨_, _, h⟩ | ⟨_, _, h⟩ | ⟨_, _, h⟩ | ⟨_, _, h⟩ | ⟨_, _, h⟩ | ⟨_, _, h⟩ | ⟨_, h⟩ <;>
    simp only [h, reduceCtorEq, true_iff, false_iff] <;> omega

theorem regionOf_io (a : Word) : regionOf a = .io ↔ 0xFF00 ≤ a.toNat ∧ a.toNat ≤ 0xFF7F := by
  rcases regionOf_cases a with ⟨_, h⟩ | ⟨_, _, h⟩ | ⟨_, _, h⟩ | ⟨_, _, h⟩ | ⟨_, _, h⟩ | ⟨_, _, h⟩ | ⟨_, _, h⟩ | ⟨_, _, h⟩ | ⟨_, _, h⟩ | ⟨_, _, h⟩ | ⟨_, _, h⟩ | ⟨_, h⟩ <;>
    simp only [h, reduceCtorEq, true_iff, false_iff] <;> omega

theorem regionOf_hram (a : Word) : regionOf a = .hram ↔ 0xFF80 ≤ a.toNat ∧ a.toNat ≤ 0xFFFE := by
  rcases regionOf_cases a with ⟨_, h⟩ | ⟨_, _, h⟩ | ⟨_, _, h⟩ | ⟨_, _, h⟩ | ⟨_, _, h⟩ | ⟨_, _, h⟩ | ⟨_, _, h⟩ | ⟨_, _, h⟩ | ⟨_, _, h⟩ | ⟨_, _, h⟩ | ⟨_, _, h⟩ | ⟨_, h⟩ <;>
    simp only [h, reduceCtorEq, true_iff, false_iff] <;> omega

theorem regionOf_ie (a : Word) : regionOf a = .ie ↔ a.toNat = 0xFFFF := by
  rcases regionOf_cases a with ⟨_, h⟩ | ⟨_, _, h⟩ | ⟨_, _, h⟩ | ⟨_, _, h⟩ | ⟨_, _, h⟩ | ⟨_, _, h⟩ | ⟨_, _, h⟩ | ⟨_, _, h⟩ | ⟨_, _, h⟩ | ⟨_, _, h⟩ | ⟨_, _, h⟩ | ⟨_, h⟩ <;>
    simp only [h, reduceCtorEq, true_iff, false_iff] <;> omega

@[simp] theorem regionOf_dmaAddr : regionOf dmaAddr = .io := by decide

/-! Where an address lives. -/

/-- A place that an array holds. -/
def Place.inBounds : Place → Prop
  | .rom _ => True
  | .vram k => k < 0x2000
  | .cartRam k => k < Config.cartRamSize
  | .wram k => k < 0x2000
  | .oam k => k < 0xA0
  | .io k => k < 0x80
  | .hram k => k < 0x7F
  | .ie => True

theorem State.ramBank_lt (s : State) : s.ramBank < 4 := by
  unfold State.ramBank; split
  · exact s.romBankHigh2.isLt
  · omega

theorem State.ramIndex_lt (s : State) (a : Word) (h : regionOf a = .cartRam) : s.ramIndex a < Config.cartRamSize := by
  rw [regionOf_cartRam] at h
  have := s.ramBank_lt
  unfold State.ramIndex Config.cartRamSize; omega

theorem State.locate_inBounds (s : State) (a : Word) (p : Place) (h : s.locate a = some p) : p.inBounds := by
  unfold State.locate at h
  dsimp only at h
  split at h <;> try (simp only [Option.some.injEq] at h; subst h)
  · trivial
  · trivial
  · rename_i hr; rw [regionOf_vram] at hr; simp only [Place.inBounds]; omega
  · rename_i hr
    split at h
    · simp only [Option.some.injEq] at h; subst h; exact s.ramIndex_lt a hr
    · cases h
  · rename_i hr; rw [regionOf_wram0] at hr; simp only [Place.inBounds]; omega
  · rename_i hr; rw [regionOf_wram1] at hr; simp only [Place.inBounds]; omega
  · rename_i hr; rw [regionOf_echo] at hr; simp only [Place.inBounds]; omega
  · rename_i hr; rw [regionOf_oam] at hr; simp only [Place.inBounds]; omega
  · cases h
  · rename_i hr; rw [regionOf_io] at hr; simp only [Place.inBounds]; omega
  · rename_i hr; rw [regionOf_hram] at hr; simp only [Place.inBounds]; omega
  · trivial

/-- Where an address lives depends on the MBC1 latches and the bank count alone. -/
theorem State.locate_congr (s t : State) (h1 : t.ramEnable = s.ramEnable) (h2 : t.romBankLow5 = s.romBankLow5)
    (h3 : t.romBankHigh2 = s.romBankHigh2) (h4 : t.bankingMode = s.bankingMode) (h5 : t.romBanks = s.romBanks)
    (a : Word) : t.locate a = s.locate a := by
  unfold State.locate State.ramIndex State.ramBank State.romBank State.unmaskedRomBank
  rw [h1, h2, h3, h4, h5]

@[simp] theorem State.locate_writePlace (s : State) (p : Place) (v : Byte) (a : Word) :
    (s.writePlace p v).locate a = s.locate a := by cases p <;> rfl

@[simp] theorem State.locate_oamCopy (s : State) (v : Byte) (n : Nat) (a : Word) :
    (s.oamCopy v n).locate a = s.locate a := State.locate_congr _ _ (by simp) (by simp) (by simp) (by simp) (by simp) a

@[simp] theorem State.locate_oamDma (s : State) (v : Byte) (a : Word) : (s.oamDma v).locate a = s.locate a :=
  State.locate_oamCopy s v 0xA0 a

/-- An address whose byte lives in the cartridge image is in ROM space. -/
theorem State.locate_rom (s : State) (a : Word) (off : Nat) (h : s.locate a = some (.rom off)) :
    regionOf a = .rom0 ∨ regionOf a = .romX := by
  unfold State.locate at h
  dsimp only at h
  split at h <;> simp_all

theorem State.locate_io (s : State) (a : Word) (k : Nat) : s.locate a = some (.io k) ↔
    regionOf a = .io ∧ a.toNat = 0xFF00 + k := by
  constructor
  · intro h
    unfold State.locate at h
    dsimp only at h
    split at h <;> simp_all
    rename_i hr; rw [regionOf_io] at hr; omega
  · rintro ⟨hr, hk⟩
    unfold State.locate
    rw [hr]; simp only [Option.some.injEq, Place.io.injEq]; omega

theorem State.locate_oam (s : State) (a : Word) (k : Nat) : s.locate a = some (.oam k) ↔
    regionOf a = .oam ∧ a.toNat = 0xFE00 + k := by
  constructor
  · intro h
    unfold State.locate at h
    dsimp only at h
    split at h <;> simp_all
    rename_i hr; rw [regionOf_oam] at hr; omega
  · rintro ⟨hr, hk⟩
    unfold State.locate
    rw [hr]; simp only [Option.some.injEq, Place.oam.injEq]; omega

@[simp] theorem State.locate_dmaAddr (s : State) : s.locate dmaAddr = some (.io 0x46) :=
  (State.locate_io s _ _).2 ⟨by decide, by decide⟩

@[simp] theorem State.locate_if (s : State) : s.locate 0xFF0F = some (.io 0x0F) :=
  (State.locate_io s _ _).2 ⟨by decide, by decide⟩

@[simp] theorem State.locate_ie (s : State) : s.locate 0xFFFF = some .ie := rfl

/-! A read after a store. -/

theorem State.readPlace_writePlace (s : State) (p q : Place) (v : Byte) (h : ∀ off, p ≠ .rom off) :
    (s.writePlace p v).readPlace q = if q = p then v else s.readPlace q := by
  cases p with
  | rom off => exact absurd rfl (h off)
  | ie => cases q <;> rfl
  | _ k =>
    cases q with
    | rom off => rfl
    | ie => rfl
    | _ j => simp [State.writePlace, State.readPlace, Memory.read_write, unlisted]

/-- A read after a byte is stored at a place: the byte where the address names that place, the old byte elsewhere. -/
theorem State.readByte_writePlace (s : State) (p : Place) (v : Byte) (h : ∀ off, p ≠ .rom off) (b : Word) :
    (s.writePlace p v).readByte b = if s.locate b = some p then v else s.readByte b := by
  unfold State.readByte
  rw [State.locate_writePlace]
  cases hb : s.locate b with
  | none => simp
  | some q => simp [State.readPlace_writePlace s p q v h]

/-- A byte read depends on memory alone. -/
theorem State.readByte_congr (s t : State) (h1 : t.vram = s.vram) (h2 : t.cartRam = s.cartRam) (h3 : t.wram = s.wram)
    (h4 : t.oam = s.oam) (h5 : t.io = s.io) (h6 : t.hram = s.hram) (h7 : t.ie = s.ie)
    (h8 : t.ramEnable = s.ramEnable) (h9 : t.romBankLow5 = s.romBankLow5) (h10 : t.romBankHigh2 = s.romBankHigh2)
    (h11 : t.bankingMode = s.bankingMode) (h12 : t.rom = s.rom) (h13 : t.romLen = s.romLen)
    (h14 : t.romBanks = s.romBanks) : SameBytes s t := by
  intro a
  unfold State.readByte
  rw [State.locate_congr s t h8 h9 h10 h11 h14]
  split
  · unfold State.readPlace State.romByte
    rw [h1, h2, h3, h4, h5, h6, h7, h12, h13]
  · rfl

@[simp] theorem State.readByte_setReg (s : State) (r : Reg8) (v : Byte) (a : Word) :
    (s.setReg r v).readByte a = s.readByte a := by cases r <;> rfl

@[simp] theorem State.readByte_setFlags (s : State) (z n h c : Bool) (a : Word) :
    (s.setFlags z n h c).readByte a = s.readByte a := rfl

@[simp] theorem State.readByte_setHl (s : State) (v a : Word) : (s.setHl v).readByte a = s.readByte a := rfl

@[simp] theorem State.readByte_setPair (s : State) (p : Reg16) (v a : Word) :
    (s.setPair p v).readByte a = s.readByte a := by cases p <;> rfl

@[simp] theorem State.readByte_setStackPair (s : State) (p : StackPair) (v a : Word) :
    (s.setStackPair p v).readByte a = s.readByte a := by cases p <;> rfl

@[simp] theorem State.readByte_popped (s : State) (a : Word) : s.popped.readByte a = s.readByte a := rfl

@[simp] theorem State.readByte_addCycles (s : State) (n : Nat) (a : Word) :
    (s.addCycles n).readByte a = s.readByte a := rfl

@[simp] theorem State.readByte_commitEI (s : State) (a : Word) : s.commitEI.readByte a = s.readByte a :=
  State.readByte_congr _ _ (by simp) (by simp) (by simp) (by simp) (by simp) (by simp) (by simp) (by simp) (by simp)
    (by simp) (by simp) (by simp) (by simp) (by simp) a

@[simp] theorem State.readByte_wake (s : State) (a : Word) : s.wake.readByte a = s.readByte a :=
  State.readByte_congr _ _ (by simp) (by simp) (by simp) (by simp) (by simp) (by simp) (by simp) (by simp) (by simp)
    (by simp) (by simp) (by simp) (by simp) (by simp) a

/-! The OAM copy. -/

/-- What the cells hold after a copy of `n` bytes: the bytes of the page as they read before it. -/
theorem State.readPlace_oamCopy (s : State) (v : Byte) (n : Nat) (hn : n ≤ 0xA0) (q : Place) :
    (s.oamCopy v n).readPlace q =
      match q with
      | .oam k => if k < n then s.readByte (mkWord v 0 + BitVec.ofNat 16 k) else s.readPlace (.oam k)
      | .rom _ | .vram _ | .cartRam _ | .wram _ | .io _ | .hram _ | .ie => s.readPlace q := by
  induction n generalizing q with
  | zero => cases q <;> simp [State.oamCopy]
  | succ n ih =>
    have hsrc : (s.oamCopy v n).readByte (mkWord v 0 + BitVec.ofNat 16 n)
        = s.readByte (mkWord v 0 + BitVec.ofNat 16 n) := by
      unfold State.readByte
      rw [State.locate_oamCopy]
      cases hl : s.locate (mkWord v 0 + BitVec.ofNat 16 n) with
      | none => rfl
      | some p =>
        dsimp only
        rw [ih (by omega) p]
        cases p with
        | oam k =>
          dsimp only
          have hb := (State.locate_oam s _ k).1 hl
          have hk : k = n := by
            have h1 := hb.2
            rw [regionOf_oam] at hb
            have hv : (mkWord v 0 + BitVec.ofNat 16 n : Word).toNat = v.toNat * 256 + n := by
              have := v.isLt
              rw [BitVec.toNat_add, mkWord_toNat, BitVec.toNat_ofNat, show (0 : Byte).toNat = 0 from rfl]
              omega
            omega
          rw [if_neg (by omega)]
        | _ => rfl
    show (State.writePlace (s.oamCopy v n) (.oam n) _).readPlace q = _
    rw [State.readPlace_writePlace _ _ _ _ (by intro off; simp), hsrc, ih (by omega)]
    cases q with
    | oam k =>
      simp only [Place.oam.injEq]
      by_cases hk : k = n
      · simp [hk]
      · have : (k < n + 1) = (k < n) := by simp; omega
        simp [hk, this]
    | _ => simp

/-- After the copy every address outside OAM reads as before. -/
theorem State.readByte_oamDma_other (s : State) (v : Byte) (b : Word) (h : regionOf b ≠ .oam) :
    (s.oamDma v).readByte b = s.readByte b := by
  unfold State.readByte
  rw [State.locate_oamDma]
  cases hl : s.locate b with
  | none => rfl
  | some q =>
    dsimp only
    unfold State.oamDma
    rw [State.readPlace_oamCopy s v _ (le_refl _) q]
    cases q with
    | oam k => exact absurd ((State.locate_oam s b k).1 hl).1 h
    | _ => rfl

/-- After the copy the cells of OAM read as the page did. -/
theorem State.readByte_oamDma_oam (s : State) (v : Byte) (b : Word) (k : Nat) (h : s.locate b = some (.oam k)) :
    (s.oamDma v).readByte b = s.readByte (mkWord v 0 + BitVec.ofNat 16 k) := by
  have hk := s.locate_inBounds _ _ h
  conv_lhs => unfold State.readByte
  rw [State.locate_oamDma, h]
  dsimp only
  unfold State.oamDma
  rw [State.readPlace_oamCopy s v _ (le_refl _)]
  simp only [Place.inBounds] at hk
  simp [hk]

/-! The shapes of a store. -/

/-- A store into ROM space moves a latch. -/
theorem State.writeByte_romSpace (s : State) (a : Word) (v : Byte) (h : a.toNat ≤ 0x7FFF) :
    s.writeByte a v = s.mbc1Write a v := by
  have : regionOf a = .rom0 ∨ regionOf a = .romX := by
    rw [regionOf_rom0, regionOf_romX]; omega
  unfold State.writeByte
  rcases this with h | h <;> rw [h]

/-- A store outside ROM space and to no DMA register goes where the byte lives. -/
theorem State.writeByte_plain (s : State) (a : Word) (v : Byte) (h : 0x8000 ≤ a.toNat) (hd : a ≠ dmaAddr) :
    s.writeByte a v = match s.locate a with
      | some p => s.writePlace p v
      | none => s := by
  have h0 : regionOf a ≠ .rom0 := by rw [Ne, regionOf_rom0]; omega
  have h1 : regionOf a ≠ .romX := by rw [Ne, regionOf_romX]; omega
  unfold State.writeByte
  dsimp only
  rw [if_neg hd]
  split <;> first | rfl | contradiction

/-- A store to the DMA register copies, then stores. -/
theorem State.writeByte_dma (s : State) (v : Byte) :
    s.writeByte dmaAddr v = (s.oamDma v).writePlace (.io 0x46) v := by
  conv_lhs => unfold State.writeByte
  rw [regionOf_dmaAddr]
  simp only [if_true, State.locate_dmaAddr]

/-- The four shapes a store can have. -/
theorem State.writeByte_cases (s : State) (a : Word) (v : Byte) :
    (a.toNat ≤ 0x7FFF ∧ s.writeByte a v = s.mbc1Write a v)
    ∨ (a = dmaAddr ∧ s.writeByte a v = (s.oamDma v).writePlace (.io 0x46) v)
    ∨ (0x8000 ≤ a.toNat ∧ a ≠ dmaAddr ∧ s.locate a = none ∧ s.writeByte a v = s)
    ∨ (0x8000 ≤ a.toNat ∧ a ≠ dmaAddr ∧ ∃ p, s.locate a = some p ∧ (∀ off, p ≠ .rom off)
        ∧ s.writeByte a v = s.writePlace p v) := by
  by_cases h : a.toNat ≤ 0x7FFF
  · exact .inl ⟨h, s.writeByte_romSpace a v h⟩
  · by_cases hd : a = dmaAddr
    · subst hd; exact .inr (.inl ⟨rfl, s.writeByte_dma v⟩)
    · have hw := s.writeByte_plain a v (by omega) hd
      cases hl : s.locate a with
      | none => rw [hl] at hw; exact .inr (.inr (.inl ⟨by omega, hd, rfl, hw⟩))
      | some p =>
        rw [hl] at hw
        refine .inr (.inr (.inr ⟨by omega, hd, p, rfl, ?_, hw⟩))
        rintro off rfl
        rcases s.locate_rom a off hl with h' | h'
        · rw [regionOf_rom0] at h'; omega
        · rw [regionOf_romX] at h'; omega

/-! A store looks at memory alone: what it does to memory is the same in two states whose memory is the same. -/

/-- The two states have the same memory, cartridge included. -/
structure SameMemory (s t : State) : Prop where
  vram : t.vram = s.vram
  cartRam : t.cartRam = s.cartRam
  wram : t.wram = s.wram
  oam : t.oam = s.oam
  io : t.io = s.io
  hram : t.hram = s.hram
  ie : t.ie = s.ie
  ramEnable : t.ramEnable = s.ramEnable
  romBankLow5 : t.romBankLow5 = s.romBankLow5
  romBankHigh2 : t.romBankHigh2 = s.romBankHigh2
  bankingMode : t.bankingMode = s.bankingMode
  rom : t.rom = s.rom
  romLen : t.romLen = s.romLen
  romBanks : t.romBanks = s.romBanks

theorem SameMemory.refl (s : State) : SameMemory s s :=
  ⟨rfl, rfl, rfl, rfl, rfl, rfl, rfl, rfl, rfl, rfl, rfl, rfl, rfl, rfl⟩

theorem SameMemory.locate {s t : State} (h : SameMemory s t) (a : Word) : t.locate a = s.locate a :=
  State.locate_congr s t h.ramEnable h.romBankLow5 h.romBankHigh2 h.bankingMode h.romBanks a

theorem SameMemory.readByte {s t : State} (h : SameMemory s t) : SameBytes s t :=
  State.readByte_congr s t h.vram h.cartRam h.wram h.oam h.io h.hram h.ie h.ramEnable h.romBankLow5 h.romBankHigh2
    h.bankingMode h.rom h.romLen h.romBanks

theorem SameMemory.writePlace {s t : State} (h : SameMemory s t) (p : Place) (v : Byte) :
    SameMemory (s.writePlace p v) (t.writePlace p v) := by
  cases p <;> constructor <;> simp only [State.writePlace, h.vram, h.cartRam, h.wram, h.oam, h.io, h.hram, h.ie,
    h.ramEnable, h.romBankLow5, h.romBankHigh2, h.bankingMode, h.rom, h.romLen, h.romBanks]

theorem SameMemory.mbc1Write {s t : State} (h : SameMemory s t) (a : Word) (v : Byte) :
    SameMemory (s.mbc1Write a v) (t.mbc1Write a v) := by
  unfold State.mbc1Write
  dsimp only
  split_ifs <;> constructor <;> simp only [h.vram, h.cartRam, h.wram, h.oam, h.io, h.hram, h.ie,
    h.ramEnable, h.romBankLow5, h.romBankHigh2, h.bankingMode, h.rom, h.romLen, h.romBanks]

theorem SameMemory.oamCopy {s t : State} (h : SameMemory s t) (v : Byte) (n : Nat) :
    SameMemory (s.oamCopy v n) (t.oamCopy v n) := by
  induction n with
  | zero => exact h
  | succ n ih =>
    show SameMemory ((s.oamCopy v n).writePlace (.oam n) ((s.oamCopy v n).readByte (mkWord v 0 + BitVec.ofNat 16 n)))
      ((t.oamCopy v n).writePlace (.oam n) ((t.oamCopy v n).readByte (mkWord v 0 + BitVec.ofNat 16 n)))
    rw [ih.readByte]
    exact ih.writePlace _ _

theorem SameMemory.writeByte {s t : State} (h : SameMemory s t) (a : Word) (v : Byte) :
    SameMemory (s.writeByte a v) (t.writeByte a v) := by
  rcases s.writeByte_cases a v with ⟨h1, e⟩ | ⟨rfl, e⟩ | ⟨h1, h2, h3, e⟩ | ⟨h1, h2, p, h3, _, e⟩ <;> rw [e]
  · rw [t.writeByte_romSpace a v h1]; exact h.mbc1Write a v
  · rw [t.writeByte_dma]; exact (h.oamCopy v 0xA0).writePlace _ _
  · rw [t.writeByte_plain a v h1 h2, h.locate, h3]; exact h
  · rw [t.writeByte_plain a v h1 h2, h.locate, h3]; exact h.writePlace p v

/-- States whose memory is the same and whose other fields are given agree. -/
theorem SameMemory.eq_withMemoryOf {s t u : State} (h : SameMemory s t) (hu : t = u.withMemoryOf t) :
    t = u.withMemoryOf s := by
  rw [hu]
  unfold State.withMemoryOf
  simp only [h.vram, h.cartRam, h.wram, h.oam, h.io, h.hram, h.ie, h.ramEnable, h.romBankLow5, h.romBankHigh2,
    h.bankingMode]

/-! What a store leaves alone. -/

/-- A store to one place leaves every address that names another. -/
theorem State.readByte_writeByte_plain (s : State) (a b : Word) (v : Byte) (h : 0x8000 ≤ a.toNat) (hd : a ≠ dmaAddr)
    (hn : s.locate b = s.locate a → s.locate a = none) : (s.writeByte a v).readByte b = s.readByte b := by
  rcases s.writeByte_cases a v with ⟨h1, e⟩ | ⟨h1, e⟩ | ⟨_, _, _, e⟩ | ⟨_, _, p, hp, hr, e⟩
  · omega
  · exact absurd h1 hd
  · rw [e]
  · rw [e, State.readByte_writePlace s p v hr, if_neg]
    intro hb
    rw [hp] at hn
    exact absurd (hn hb) (by simp)

/-- A byte stored where it is held is read back. -/
theorem State.readByte_writeByte_same (s : State) (a : Word) (v : Byte) (h : 0x8000 ≤ a.toNat)
    (hl : (s.locate a).isSome = true) : (s.writeByte a v).readByte a = v := by
  rcases s.writeByte_cases a v with ⟨h1, e⟩ | ⟨h1, e⟩ | ⟨_, _, hn, e⟩ | ⟨_, _, p, hp, hr, e⟩
  · omega
  · rw [e, State.readByte_writePlace _ _ _ (by intro; simp), State.locate_oamDma, h1]; simp
  · rw [hn] at hl; cases hl
  · rw [e, State.readByte_writePlace s p v hr, if_pos hp]

/-! Two stores, each where it is held. -/

theorem Holds.outside_rom {s : State} {a : Word} (h : Holds s a) : 0x8000 ≤ a.toNat := by
  obtain ⟨h0, h1, _, _⟩ := h
  rw [Ne, regionOf_rom0] at h0
  rw [Ne, regionOf_romX] at h1
  omega

/-- A store where the byte is held moves no address. -/
theorem Holds.locate_writeByte {s : State} {a : Word} (h : Holds s a) (v : Byte) (b : Word) :
    (s.writeByte a v).locate b = s.locate b := by
  rcases s.writeByte_cases a v with ⟨h1, e⟩ | ⟨h1, e⟩ | ⟨_, _, _, e⟩ | ⟨_, _, p, _, _, e⟩
  · have := h.outside_rom; omega
  · exact absurd h1 h.2.2.1
  · rw [e]
  · rw [e]; simp

/-- Both bytes are read back when the two addresses name different cells. -/
theorem Holds.two_stores {s : State} {a b : Word} (ha : Holds s a) (hb : Holds s b) (hne : s.locate a ≠ s.locate b)
    (v w : Byte) :
    ((s.writeByte a v).writeByte b w).readByte a = v ∧ ((s.writeByte a v).writeByte b w).readByte b = w := by
  refine ⟨?_, ?_⟩
  · rw [State.readByte_writeByte_plain _ _ _ _ hb.outside_rom hb.2.2.1]
    · exact State.readByte_writeByte_same _ _ _ ha.outside_rom ha.2.2.2
    · rw [ha.locate_writeByte, ha.locate_writeByte]; intro h; exact absurd h hne
  · exact State.readByte_writeByte_same _ _ _ hb.outside_rom (by rw [ha.locate_writeByte]; exact hb.2.2.2)

/-- Neighbouring addresses name different cells. -/
theorem Holds.locate_succ_ne {s : State} {a : Word} (ha : Holds s a) (hb : Holds s (a + 1)) :
    s.locate a ≠ s.locate (a + 1) := by
  have h1 := ha.outside_rom
  have h2 := hb.outside_rom
  have e : (a + 1).toNat = (a.toNat + 1) % 65536 := by rw [BitVec.toNat_add]; rfl
  have hlt := a.isLt
  have e2 : (a + 1).toNat = a.toNat + 1 := by omega
  have l1 := ha.2.2.2
  have l2 := hb.2.2.2
  intro h
  unfold State.locate State.ramIndex at h l1 l2
  rcases regionOf_cases a with ⟨_, r⟩ | ⟨_, _, r⟩ | ⟨_, _, r⟩ | ⟨_, _, r⟩ | ⟨_, _, r⟩ | ⟨_, _, r⟩ | ⟨_, _, r⟩ |
      ⟨_, _, r⟩ | ⟨_, _, r⟩ | ⟨_, _, r⟩ | ⟨_, _, r⟩ | ⟨_, r⟩ <;> rw [r] at h l1 <;>
    rcases regionOf_cases (a + 1) with ⟨_, q⟩ | ⟨_, _, q⟩ | ⟨_, _, q⟩ | ⟨_, _, q⟩ | ⟨_, _, q⟩ | ⟨_, _, q⟩ |
      ⟨_, _, q⟩ | ⟨_, _, q⟩ | ⟨_, _, q⟩ | ⟨_, _, q⟩ | ⟨_, _, q⟩ | ⟨_, q⟩ <;> rw [q] at h l2 <;>
    dsimp only at h l1 l2 <;> first | omega | (simp at h; try omega)
  all_goals (cases hr : s.ramEnable <;> simp [hr] at h l1 l2 <;> omega)

end Sys2Proof.Machine
end

