-- ==== Sys2Proof/Laws/Ops.lean ====
section
/-! SUPPORT. Everything a shared operation, and an instruction, can do, said once: what all but six kinds of instruction
leave alone (`Plain`), and the exact effect of those six. -/

namespace Sys2Proof.Machine

/-! The arrays stay canonical. -/

theorem arraysWf_iff (s : State) : s.arraysWf = true ↔
    Memory.wf Config.ramUnlisted 0x2000 s.vram = true
    ∧ Memory.wf Config.ramUnlisted Config.cartRamSize s.cartRam = true
    ∧ Memory.wf Config.ramUnlisted 0x2000 s.wram = true
    ∧ Memory.wf Config.ramUnlisted 0xA0 s.oam = true
    ∧ Memory.wf Config.ramUnlisted 0x80 s.io = true
    ∧ Memory.wf Config.ramUnlisted 0x7F s.hram = true
    ∧ Memory.wf Config.romUnlisted s.romLen s.rom = true := by
  simp [State.arraysWf, and_assoc]

theorem arraysWf_congr (s t : State) (h1 : t.vram = s.vram) (h2 : t.cartRam = s.cartRam) (h3 : t.wram = s.wram)
    (h4 : t.oam = s.oam) (h5 : t.io = s.io) (h6 : t.hram = s.hram) (h7 : t.rom = s.rom) (h8 : t.romLen = s.romLen) :
    t.arraysWf = s.arraysWf := by
  unfold State.arraysWf
  rw [h1, h2, h3, h4, h5, h6, h7, h8]

theorem arraysWf_writePlace (s : State) (p : Place) (v : Byte) (hp : p.inBounds) (h : s.arraysWf = true) :
    (s.writePlace p v).arraysWf = true := by
  rw [arraysWf_iff] at h ⊢
  obtain ⟨h1, h2, h3, h4, h5, h6, h7⟩ := h
  cases p with
  | rom off => exact ⟨h1, h2, h3, h4, h5, h6, h7⟩
  | ie => exact ⟨h1, h2, h3, h4, h5, h6, h7⟩
  | vram k => exact ⟨Memory.wf_write _ _ _ _ _ h1 hp, h2, h3, h4, h5, h6, h7⟩
  | cartRam k => exact ⟨h1, Memory.wf_write _ _ _ _ _ h2 hp, h3, h4, h5, h6, h7⟩
  | wram k => exact ⟨h1, h2, Memory.wf_write _ _ _ _ _ h3 hp, h4, h5, h6, h7⟩
  | oam k => exact ⟨h1, h2, h3, Memory.wf_write _ _ _ _ _ h4 hp, h5, h6, h7⟩
  | io k => exact ⟨h1, h2, h3, h4, Memory.wf_write _ _ _ _ _ h5 hp, h6, h7⟩
  | hram k => exact ⟨h1, h2, h3, h4, h5, Memory.wf_write _ _ _ _ _ h6 hp, h7⟩

theorem arraysWf_oamCopy (s : State) (v : Byte) (n : Nat) (hn : n ≤ 0xA0) (h : s.arraysWf = true) :
    (s.oamCopy v n).arraysWf = true := by
  induction n with
  | zero => exact h
  | succ n ih => exact arraysWf_writePlace _ _ _ (by simp only [Place.inBounds]; omega) (ih (by omega))

theorem arraysWf_mbc1Write (s : State) (a : Word) (v : Byte) : (s.mbc1Write a v).arraysWf = s.arraysWf :=
  arraysWf_congr _ _ (by simp) (by simp) (by simp) (by simp) (by simp) (by simp) (by simp) (by simp)

theorem arraysWf_writeByte (s : State) (a : Word) (v : Byte) (h : s.arraysWf = true) :
    (s.writeByte a v).arraysWf = true := by
  rcases s.writeByte_cases a v with ⟨_, e⟩ | ⟨_, e⟩ | ⟨_, _, _, e⟩ | ⟨_, _, p, hp, _, e⟩ <;> rw [e]
  · rw [arraysWf_mbc1Write]; exact h
  · exact arraysWf_writePlace _ _ _ (by simp [Place.inBounds]) (arraysWf_oamCopy s v _ (le_refl _) h)
  · exact h
  · exact arraysWf_writePlace _ _ _ (s.locate_inBounds a p hp) h

theorem bankLow_writeByte (s : State) (a : Word) (v : Byte) (h : s.romBankLow5 ≠ 0) :
    (s.writeByte a v).romBankLow5 ≠ 0 := by
  rcases s.writeByte_cases a v with ⟨_, e⟩ | ⟨_, e⟩ | ⟨_, _, _, e⟩ | ⟨_, _, p, hp, _, e⟩ <;> rw [e]
  · unfold State.mbc1Write
    dsimp only
    split_ifs
    · exact h
    · simp
    · assumption
    · exact h
    · exact h
  · simpa using h
  · exact h
  · simpa using h

/-! What most instructions can do. -/

/-- From `s` to `t` no run state, interrupt latch, counter or parameter changed, `F` is as it was or written
with its low bits 0, and the parts of the invariant that an instruction can disturb are kept. -/
structure Plain (s t : State) : Prop where
  ime : t.ime = s.ime
  imePending : t.imePending = s.imePending
  eiJust : t.eiJust = s.eiJust
  halted : t.halted = s.halted
  faultLatch : t.faultLatch = s.faultLatch
  cycles : t.cycles = s.cycles
  rom : t.rom = s.rom
  romLen : t.romLen = s.romLen
  romBanks : t.romBanks = s.romBanks
  cycleTable : t.cycleTable = s.cycleTable
  arrays : s.arraysWf = true → t.arraysWf = true
  flagsWrite : t.f = s.f ∨ t.f &&& 0x0F = 0
  bankLow : s.romBankLow5 ≠ 0 → t.romBankLow5 ≠ 0

theorem Plain.refl (s : State) : Plain s s := ⟨rfl, rfl, rfl, rfl, rfl, rfl, rfl, rfl, rfl, rfl, id, .inl rfl, id⟩

theorem Plain.trans {s t u : State} (h : Plain s t) (k : Plain t u) : Plain s u where
  ime := k.ime.trans h.ime
  imePending := k.imePending.trans h.imePending
  eiJust := k.eiJust.trans h.eiJust
  halted := k.halted.trans h.halted
  faultLatch := k.faultLatch.trans h.faultLatch
  cycles := k.cycles.trans h.cycles
  rom := k.rom.trans h.rom
  romLen := k.romLen.trans h.romLen
  romBanks := k.romBanks.trans h.romBanks
  cycleTable := k.cycleTable.trans h.cycleTable
  arrays := fun x => k.arrays (h.arrays x)
  flagsWrite := k.flagsWrite.elim (fun e => h.flagsWrite.imp e.trans (fun m => e ▸ m)) .inr
  bankLow := fun x => k.bankLow (h.bankLow x)

/-- Bits 3..0 of a masked flag byte are 0 (R23). -/
theorem flags_masked (v : Byte) : v &&& 0xF0 &&& 0x0F = 0 := by
  rw [BitVec.and_assoc]; simp

theorem Plain.setReg (s : State) (r : Reg8) (v : Byte) : Plain s (s.setReg r v) := by
  cases r <;> exact ⟨rfl, rfl, rfl, rfl, rfl, rfl, rfl, rfl, rfl, rfl, id, .inl rfl, id⟩

theorem Plain.setFlags (s : State) (z n h c : Bool) : Plain s (s.setFlags z n h c) :=
  ⟨rfl, rfl, rfl, rfl, rfl, rfl, rfl, rfl, rfl, rfl, id, .inr (flags_masked _), id⟩

theorem Plain.setHl (s : State) (v : Word) : Plain s (s.setHl v) :=
  ⟨rfl, rfl, rfl, rfl, rfl, rfl, rfl, rfl, rfl, rfl, id, .inl rfl, id⟩

theorem Plain.setPair (s : State) (p : Reg16) (v : Word) : Plain s (s.setPair p v) := by
  cases p <;> exact ⟨rfl, rfl, rfl, rfl, rfl, rfl, rfl, rfl, rfl, rfl, id, .inl rfl, id⟩

theorem Plain.setStackPair (s : State) (p : StackPair) (v : Word) : Plain s (s.setStackPair p v) := by
  cases p
  · exact ⟨rfl, rfl, rfl, rfl, rfl, rfl, rfl, rfl, rfl, rfl, id, .inl rfl, id⟩
  · exact ⟨rfl, rfl, rfl, rfl, rfl, rfl, rfl, rfl, rfl, rfl, id, .inl rfl, id⟩
  · exact ⟨rfl, rfl, rfl, rfl, rfl, rfl, rfl, rfl, rfl, rfl, id, .inl rfl, id⟩
  · exact ⟨rfl, rfl, rfl, rfl, rfl, rfl, rfl, rfl, rfl, rfl, id, .inr (flags_masked _), id⟩

theorem Plain.setPc (s : State) (v : Word) : Plain s { s with pc := v } :=
  ⟨rfl, rfl, rfl, rfl, rfl, rfl, rfl, rfl, rfl, rfl, id, .inl rfl, id⟩

theorem Plain.setSp (s : State) (v : Word) : Plain s { s with sp := v } :=
  ⟨rfl, rfl, rfl, rfl, rfl, rfl, rfl, rfl, rfl, rfl, id, .inl rfl, id⟩

theorem Plain.setA (s : State) (v : Byte) : Plain s { s with a := v } :=
  ⟨rfl, rfl, rfl, rfl, rfl, rfl, rfl, rfl, rfl, rfl, id, .inl rfl, id⟩

theorem Plain.writeByte (s : State) (a : Word) (v : Byte) : Plain s (s.writeByte a v) where
  ime := by simp
  imePending := by simp
  eiJust := by simp
  halted := by simp
  faultLatch := by simp
  cycles := by simp
  rom := by simp
  romLen := by simp
  romBanks := by simp
  cycleTable := by simp
  arrays := arraysWf_writeByte s a v
  flagsWrite := .inl (by simp)
  bankLow := bankLow_writeByte s a v

theorem Plain.writeWord (s : State) (a v : Word) : Plain s (s.writeWord a v) :=
  (Plain.writeByte _ _ _).trans (Plain.writeByte _ _ _)

theorem Plain.push16 (s : State) (v : Word) : Plain s (s.push16 v) :=
  ((Plain.writeByte _ _ _).trans (Plain.writeByte _ _ _)).trans (Plain.setSp _ _)

theorem Plain.popped (s : State) : Plain s s.popped := Plain.setSp s _

theorem Plain.returnFromCall (s : State) : Plain s s.returnFromCall :=
  ⟨rfl, rfl, rfl, rfl, rfl, rfl, rfl, rfl, rfl, rfl, id, .inl rfl, id⟩

theorem Plain.writeOperand (s : State) (o : Operand8) (v : Byte) : Plain s (s.writeOperand o v) := by
  cases o
  · exact Plain.setReg s _ v
  · exact Plain.writeByte s _ v

theorem Plain.putA (s : State) (r : AluOut) : Plain s (s.putA r) := (Plain.setA s _).trans (Plain.setFlags _ _ _ _ _)

theorem Plain.putOperand (s : State) (o : Operand8) (r : AluOut) : Plain s (s.putOperand o r) :=
  (Plain.writeOperand s o _).trans (Plain.setFlags _ _ _ _ _)

/-- A result that is a next state, plainly reached. -/
def PlainResult (s : State) (r : Result) : Prop := ∃ t, r = .next t ∧ Plain s t

theorem PlainResult.next {s t : State} (h : Plain s t) : PlainResult s (.next t) := ⟨t, rfl, h⟩

theorem PlainResult.jumpIf (cc : Cond) (w : Word) (s : State) : PlainResult s (jumpIf cc w s) := by
  unfold Machine.jumpIf; split
  · exact .next (Plain.setPc s w)
  · exact .next (Plain.refl s)

theorem PlainResult.callTo (w : Word) (s : State) : PlainResult s (callTo w s) :=
  .next ((Plain.push16 s _).trans (Plain.setPc _ w))

theorem PlainResult.callIf (cc : Cond) (w : Word) (s : State) : PlainResult s (callIf cc w s) := by
  unfold Machine.callIf; split
  · exact .callTo w s
  · exact .next (Plain.refl s)

theorem PlainResult.returnIf (cc : Cond) (s : State) : PlainResult s (returnIf cc s) := by
  unfold Machine.returnIf; split
  · exact .next (Plain.returnFromCall s)
  · exact .next (Plain.refl s)

/-- Whether an instruction writes a run state or an interrupt latch. -/
def isPlain : Instr → Prop := fun i => i ≠ .halt ∧ i ≠ .ei ∧ i ≠ .di ∧ i ≠ .reti ∧ ∀ k, i ≠ .illegal k

/-- Every instruction but `HALT`, `EI`, `DI`, `RETI` and the undefined opcodes. -/
theorem exec_plain (i : Instr) (s : State) (hi : isPlain i) : PlainResult s (exec i s) := by
  obtain ⟨hHalt, hEi, hDi, hReti, hIll⟩ := hi
  induction i using Instr.byFamily
  case on_halt => exact absurd rfl hHalt
  case on_ei => exact absurd rfl hEi
  case on_di => exact absurd rfl hDi
  case on_reti => exact absurd rfl hReti
  case on_illegal k => exact absurd rfl (hIll k)
  case on_jrCond => rw [exec_jrCond]; exact .jumpIf _ _ _
  case on_jpCond => rw [exec_jpCond]; exact .jumpIf _ _ _
  case on_callCond => rw [exec_callCond]; exact .callIf _ _ _
  case on_retCond => rw [exec_retCond]; exact .returnIf _ _
  case on_rst => rw [exec_rst]; exact .callTo _ _
  case on_callA16 => exact .callTo _ _
  case on_ldRegReg => rw [exec_ldRegReg]; exact .next (.setReg _ _ _)
  case on_ldRegAtHl => rw [exec_ldRegAtHl]; exact .next (.setReg _ _ _)
  case on_ldAtHlReg => rw [exec_ldAtHlReg]; exact .next (.writeByte _ _ _)
  case on_ldRegD8 => rw [exec_ldRegD8]; exact .next (.setReg _ _ _)
  case on_ldPairD16 => rw [exec_ldPairD16]; exact .next (.setPair _ _ _)
  case on_incPair => rw [exec_incPair]; exact .next (.setPair _ _ _)
  case on_decPair => rw [exec_decPair]; exact .next (.setPair _ _ _)
  case on_addHlPair => rw [exec_addHlPair]; exact .next ((Plain.setHl _ _).trans (.setFlags _ _ _ _ _))
  case on_incReg => rw [exec_incReg]; exact .next (.putOperand _ _ _)
  case on_decReg => rw [exec_decReg]; exact .next (.putOperand _ _ _)
  case on_alu => rw [exec_alu]; exact .next (.putA _ _)
  case on_aluD8 => rw [exec_aluD8]; exact .next (.putA _ _)
  case on_push => rw [exec_push]; exact .next (.push16 _ _)
  case on_pop => rw [exec_pop]; exact .next ((Plain.popped _).trans (.setStackPair _ _ _))
  case on_rot => rw [exec_rot]; exact .next (.putOperand _ _ _)
  case on_bit => rw [exec_bit]; exact .next (.setFlags _ _ _ _ _)
  case on_res => rw [exec_res]; exact .next (.writeOperand _ _ _)
  case on_set => rw [exec_set]; exact .next (.writeOperand _ _ _)
  case on_ldHlSpR8 => exact .next ((Plain.setHl _ _).trans (.setFlags _ _ _ _ _))
  case on_addSpR8 => exact .next ((Plain.setSp _ _).trans (.setFlags _ _ _ _ _))
  case on_cpl => exact .next ((Plain.setA _ _).trans (.setFlags _ _ _ _ _))
  case on_ldAtHlIncA => exact .next ((Plain.writeByte _ _ _).trans (.setHl _ _))
  case on_ldAtHlDecA => exact .next ((Plain.writeByte _ _ _).trans (.setHl _ _))
  case on_ldAAtHlInc => exact .next ((Plain.setReg _ _ _).trans (.setHl _ _))
  case on_ldAAtHlDec => exact .next ((Plain.setReg _ _ _).trans (.setHl _ _))
  case on_nop => exact .next (.refl _)
  case on_stop => exact .next (.refl _)
  case on_ldAtBcA => exact .next (.writeByte _ _ _)
  case on_ldAtDeA => exact .next (.writeByte _ _ _)
  case on_ldAtHlD8 => exact .next (.writeByte _ _ _)
  case on_ldhAtA8A => exact .next (.writeByte _ _ _)
  case on_ldAtCA => exact .next (.writeByte _ _ _)
  case on_ldAtA16A => exact .next (.writeByte _ _ _)
  case on_ldAtA16Sp => exact .next (.writeWord _ _ _)
  case on_ldAAtBc => exact .next (.setReg _ _ _)
  case on_ldAAtDe => exact .next (.setReg _ _ _)
  case on_ldhAAtA8 => exact .next (.setReg _ _ _)
  case on_ldAAtC => exact .next (.setReg _ _ _)
  case on_ldAAtA16 => exact .next (.setReg _ _ _)
  case on_ldSpHl => exact .next (.setSp _ _)
  case on_jpA16 => exact .next (.setPc _ _)
  case on_jrR8 => exact .next (.setPc _ _)
  case on_jpHl => exact .next (.setPc _ _)
  case on_ret => exact .next (.returnFromCall _)
  case on_rlca => exact .next (.putA _ _)
  case on_rrca => exact .next (.putA _ _)
  case on_rla => exact .next (.putA _ _)
  case on_rra => exact .next (.putA _ _)
  case on_daa => exact .next (.putA _ _)
  case on_scf => exact .next (.setFlags _ _ _ _ _)
  case on_ccf => exact .next (.setFlags _ _ _ _ _)
  case on_incAtHl => exact .next (.putOperand _ _ _)
  case on_decAtHl => exact .next (.putOperand _ _ _)

/-- Everything an instruction can do to the run states, the interrupt latches and the invariant. -/
theorem exec_cases (i : Instr) (s t : State) (h : exec i s = .next t) :
    (isPlain i ∧ Plain s t)
    ∨ (i = .halt ∧ t = { s with halted := true })
    ∨ (i = .ei ∧ t = if s.imePending then s else { s with imePending := true, eiJust := true })
    ∨ (i = .di ∧ t = { s with ime := false, imePending := false, eiJust := false })
    ∨ (i = .reti ∧ t = { s.returnFromCall with ime := true })
    ∨ ∃ k : IllegalOp, i = .illegal k ∧ t = s.raiseIllegal k.byte := by
  by_cases hi : isPlain i
  · obtain ⟨u, hu, hp⟩ := exec_plain i s hi
    rw [h] at hu
    injection hu with e
    subst e
    exact .inl ⟨hi, hp⟩
  · by_cases h1 : i = .halt
    · subst h1; injection h with e; exact .inr (.inl ⟨rfl, e.symm⟩)
    by_cases h2 : i = .ei
    · subst h2; injection h with e; exact .inr (.inr (.inl ⟨rfl, e.symm⟩))
    by_cases h3 : i = .di
    · subst h3; injection h with e; exact .inr (.inr (.inr (.inl ⟨rfl, e.symm⟩)))
    by_cases h4 : i = .reti
    · subst h4; injection h with e; exact .inr (.inr (.inr (.inr (.inl ⟨rfl, e.symm⟩))))
    have : ∃ k, i = .illegal k := by
      by_contra hk
      exact hi ⟨h1, h2, h3, h4, fun k e => hk ⟨k, e⟩⟩
    obtain ⟨k, rfl⟩ := this
    rw [exec_illegal] at h
    injection h with e
    exact .inr (.inr (.inr (.inr (.inr ⟨k, rfl, e.symm⟩))))

/-- Every instruction answers a next state. -/
theorem exec_next (i : Instr) (s : State) : ∃ t, exec i s = .next t := by
  by_cases hi : isPlain i
  · obtain ⟨t, ht, _⟩ := exec_plain i s hi; exact ⟨t, ht⟩
  · by_cases h1 : i = .halt
    · subst h1; exact ⟨_, rfl⟩
    by_cases h2 : i = .ei
    · subst h2; exact ⟨_, rfl⟩
    by_cases h3 : i = .di
    · subst h3; exact ⟨_, rfl⟩
    by_cases h4 : i = .reti
    · subst h4; exact ⟨_, rfl⟩
    have : ∃ k, i = .illegal k := by
      by_contra hk
      exact hi ⟨h1, h2, h3, h4, fun k e => hk ⟨k, e⟩⟩
    obtain ⟨k, rfl⟩ := this
    exact ⟨_, exec_illegal k s⟩

end Sys2Proof.Machine
end

