-- ==== Sys2Proof/Laws/Flags.lean ====
section
/-! SUPPORT. The flags after a write of all four, and the small numbers the flag rules compare. -/

namespace Sys2Proof.Machine

/-- The packed flags, masked, hold each flag in its bit (R22). -/
theorem packFlags_bits (z n h c : Bool) :
    (packFlags z n h c &&& 0xF0).getLsbD 7 = z ∧ (packFlags z n h c &&& 0xF0).getLsbD 6 = n
    ∧ (packFlags z n h c &&& 0xF0).getLsbD 5 = h ∧ (packFlags z n h c &&& 0xF0).getLsbD 4 = c := by
  revert z n h c; decide +kernel

/-- The flags after all four are written. -/
theorem flagsAre_setFlags (s : State) (z n h c : Bool) : FlagsAre (s.setFlags z n h c) z n h c := by
  obtain ⟨hz, hn, hh, hc⟩ := packFlags_bits z n h c
  exact ⟨hz, hn, hh, hc, flags_masked _⟩

@[simp] theorem State.flagZ_setFlags (s : State) (z n h c : Bool) : (s.setFlags z n h c).flagZ = z :=
  (packFlags_bits z n h c).1

@[simp] theorem State.flagN_setFlags (s : State) (z n h c : Bool) : (s.setFlags z n h c).flagN = n :=
  (packFlags_bits z n h c).2.1

@[simp] theorem State.flagH_setFlags (s : State) (z n h c : Bool) : (s.setFlags z n h c).flagH = h :=
  (packFlags_bits z n h c).2.2.1

@[simp] theorem State.flagC_setFlags (s : State) (z n h c : Bool) : (s.setFlags z n h c).flagC = c :=
  (packFlags_bits z n h c).2.2.2

@[simp] theorem State.reg_setFlags (s : State) (z n h c : Bool) (r : Reg8) :
    (s.setFlags z n h c).reg r = s.reg r := by cases r <;> rfl

theorem lowNibble_toNat (v : Byte) : lowNibble v = v.toNat % 16 := by revert v; decide +kernel

theorem low4_toNat (w : Word) : (w &&& 0x000F).toNat = w.toNat % 16 := by
  rw [BitVec.toNat_and, show (0x000F : Word).toNat = 2 ^ 4 - 1 from rfl, Nat.and_two_pow_sub_one_eq_mod]

theorem low8_toNat (w : Word) : (w &&& 0x00FF).toNat = w.toNat % 256 := by
  rw [BitVec.toNat_and, show (0x00FF : Word).toNat = 2 ^ 8 - 1 from rfl, Nat.and_two_pow_sub_one_eq_mod]

theorem low12_toNat (w : Word) : (w &&& 0x0FFF).toNat = w.toNat % 4096 := by
  rw [BitVec.toNat_and, show (0x0FFF : Word).toNat = 2 ^ 12 - 1 from rfl, Nat.and_two_pow_sub_one_eq_mod]

/-- A byte is zero as bits exactly when it is zero as a number. -/
theorem beq_zero_byte (v : Byte) : (v == 0) = decide (v.toNat = 0) := by revert v; decide +kernel

end Sys2Proof.Machine
end

