-- ==== Sys2Proof/Laws/Inv.lean ====
section
/-! SUPPORT. The invariant is kept by each shared operation and by each instruction. -/

namespace Sys2Proof.Machine

/-- Only `$FF0F` names the cell `IF`. -/
theorem locate_if_iff (s : State) (b : Word) : s.locate b = some (.io 0x0F) ↔ b = 0xFF0F := by
  rw [State.locate_io, regionOf_io]
  constructor
  · rintro ⟨_, h⟩; exact BitVec.eq_of_toNat_eq h
  · rintro rfl; decide

/-- A read after `IF` is written. -/
theorem State.readByte_setIfReg (s : State) (v : Byte) (b : Word) : (s.setIfReg v).readByte b = if b = 0xFF0F then v else s.readByte b := by
  unfold State.setIfReg
  rw [State.readByte_writePlace _ _ _ (by intro; simp)]
  simp [locate_if_iff]

/-- What is plainly reached from a state with no fault latched keeps the invariant. -/
theorem Plain.inv {s t : State} (hp : Plain s t) (hf : s.faultLatch = none) (h : s.Inv) : t.Inv where
  arrays := hp.arrays h.arrays
  flagsLow := hp.flagsWrite.elim (fun e => e ▸ h.flagsLow) id
  bankLow := hp.bankLow h.bankLow
  eiLatch := by rw [hp.imePending, hp.eiJust]; exact h.eiLatch
  banks := by rw [hp.romBanks]; exact h.banks
  latch := by rw [hp.faultLatch, hf]; intro _ _ h; cases h

theorem State.Inv.writeByte (s : State) (a : Word) (v : Byte) (h : s.Inv) : (s.writeByte a v).Inv where
  arrays := arraysWf_writeByte s a v h.arrays
  flagsLow := by simpa using h.flagsLow
  bankLow := bankLow_writeByte s a v h.bankLow
  eiLatch := by simpa using h.eiLatch
  banks := by simpa using h.banks
  latch := by simpa using h.latch

theorem State.Inv.writePlace (s : State) (p : Place) (v : Byte) (hp : p.inBounds) (h : State.Inv s) : (s.writePlace p v).Inv where
  arrays := arraysWf_writePlace s p v hp h.arrays
  flagsLow := by simpa using h.flagsLow
  bankLow := by simpa using h.bankLow
  eiLatch := by simpa using h.eiLatch
  banks := by simpa using h.banks
  latch := by simpa using h.latch

theorem State.Inv.commitEI (s : State) (h : s.Inv) : s.commitEI.Inv := by
  refine ⟨?_, by simpa using h.flagsLow, by simpa using h.bankLow, ?_, by simpa using h.banks, by simpa using h.latch⟩
  · rw [arraysWf_congr _ _ (s.commitEI_vram) (s.commitEI_cartRam) s.commitEI_wram s.commitEI_oam s.commitEI_io s.commitEI_hram s.commitEI_rom s.commitEI_romLen]; exact h.arrays
  · unfold State.commitEI
    split_ifs <;> simp_all [h.eiLatch]

theorem State.Inv.awake (s : State) (h : s.Inv) : s.awake.Inv :=
  ⟨h.arrays, h.flagsLow, h.bankLow, h.eiLatch, h.banks, h.latch⟩

theorem State.Inv.addCycles (s : State) (n : Nat) (h : s.Inv) : (s.addCycles n).Inv :=
  ⟨h.arrays, h.flagsLow, h.bankLow, h.eiLatch, h.banks, h.latch⟩

theorem State.Inv.takeInterrupt (s : State) (src : Source) (hf : s.faultLatch = none) (h : s.Inv) : (s.takeInterrupt src).Inv := by
  have h1 : State.Inv { s with ime := false, imePending := false, eiJust := false } :=
    ⟨h.arrays, h.flagsLow, h.bankLow, fun _ => rfl, h.banks, h.latch⟩
  have h2 := Plain.inv (Plain.push16 { s with ime := false, imePending := false, eiJust := false } s.pc) hf h1
  have h3 : State.Inv (State.clearRequest _ src) := State.Inv.writePlace _ (.io 0x0F) _ (by simp [Place.inBounds]) h2
  refine ⟨h3.arrays, h3.flagsLow, h3.bankLow, h3.eiLatch, h3.banks, ?_⟩
  intro p op hh
  have : (State.takeInterrupt s src).faultLatch = s.faultLatch := by unfold State.takeInterrupt; simp
  rw [hf] at this
  unfold State.takeInterrupt at hh; simp [hf] at hh

/-- Every instruction keeps the invariant, from a state with no fault latched. -/
theorem exec_inv (i : Instr) (s t : State) (hf : s.faultLatch = none) (h : s.Inv) (he : exec i s = .next t) : t.Inv := by
  rcases exec_cases i s t he with ⟨_, hp⟩ | ⟨_, rfl⟩ | ⟨_, rfl⟩ | ⟨_, rfl⟩ | ⟨_, rfl⟩ | ⟨k, _, rfl⟩
  · exact Plain.inv hp hf h
  · exact ⟨h.arrays, h.flagsLow, h.bankLow, h.eiLatch, h.banks, h.latch⟩
  · split
    · exact h
    · exact ⟨h.arrays, h.flagsLow, h.bankLow, by simp, h.banks, h.latch⟩
  · exact ⟨h.arrays, h.flagsLow, h.bankLow, by simp, h.banks, h.latch⟩
  · exact ⟨h.arrays, h.flagsLow, h.bankLow, h.eiLatch, h.banks, by show ∀ p op, s.faultLatch = _ → _; rw [hf]; intro _ _ h; cases h⟩
  · refine ⟨h.arrays, h.flagsLow, h.bankLow, h.eiLatch, h.banks, ?_⟩
    intro p op hh
    unfold State.raiseIllegal at hh ⊢
    simp at hh
    refine ⟨hh.1, ?_⟩
    rw [← hh.2]; cases k <;> decide

end Sys2Proof.Machine
end

