-- ==== Sys2Proof/Laws/Step.lean ====
section
/-! SUPPORT. The four things a step can do, and what running an instruction answers. -/

namespace Sys2Proof.Machine

/-- Committing the `EI` latch moves no request and no enable. -/
theorem State.pendingSource_commitEI (s : State) : s.commitEI.pendingSource = s.pendingSource := by
  unfold State.pendingSource State.pendingBits State.ifReg State.readPlace; simp

/-- Waking depends on the pending sources alone. -/
theorem State.wake_commitEI (s : State) :
    s.commitEI.wake = if s.pendingSource.isSome then s.commitEI.awake else s.commitEI := by
  unfold State.wake; rw [State.pendingSource_commitEI]

/-- A state that is not halted is awake. -/
theorem State.awake_of_not_halted (s : State) (h : s.halted = false) : s.awake = s := by
  unfold State.awake; rw [← h]

/-- A step is one of: nothing (a fault is latched), a dispatch, an idle cycle, an instruction. -/
theorem step_cases (s : State) :
    (s.faultLatch ≠ none ∧ step s = .next s)
    ∨ (s.faultLatch = none ∧ ∃ src, s.pendingSource = some src ∧ s.commitEI.ime = true
        ∧ step s = .next ((s.commitEI.awake.takeInterrupt src).addCycles 5))
    ∨ (s.faultLatch = none ∧ s.halted = true ∧ s.pendingSource = none ∧ step s = .next (s.commitEI.addCycles 1))
    ∨ (s.faultLatch = none ∧ (s.commitEI.ime = false ∨ s.pendingSource = none)
        ∧ (s.halted = false ∨ s.pendingSource ≠ none) ∧ step s = s.commitEI.awake.runInstruction) := by
  cases hf : s.faultLatch with
  | some w => exact .inl ⟨by simp, by unfold step stepProtocol; rw [hf]⟩
  | none =>
    right
    have hs : step s = (match s.pendingSource, s.commitEI.ime with
        | some src, true => .next ((s.commitEI.wake.takeInterrupt src).addCycles dispatchCycles)
        | _, _ => if s.commitEI.wake.halted then .next (s.commitEI.wake.addCycles idleCycles)
            else s.commitEI.wake.runInstruction) := by
      unfold step stepProtocol; rw [hf]; dsimp only; (rw [State.pendingSource_commitEI, State.wake_ime]) <;> rfl
    rw [State.wake_commitEI] at hs
    cases hp : s.pendingSource with
    | some src =>
      rw [hp] at hs
      cases hi : s.commitEI.ime with
      | true => rw [hi] at hs; exact .inl ⟨rfl, src, rfl, rfl, hs⟩
      | false => rw [hi] at hs; exact .inr (.inr ⟨rfl, .inl rfl, .inr (by simp), hs⟩)
    | none =>
      rw [hp] at hs
      simp only [Option.isSome_none, Bool.false_eq_true, if_false, State.commitEI_halted] at hs
      cases hh : s.halted with
      | true => rw [hh] at hs; exact .inr (.inl ⟨rfl, rfl, rfl, hs⟩)
      | false =>
        rw [hh] at hs
        rw [State.awake_of_not_halted s.commitEI (by simp [hh])]
        exact .inr (.inr ⟨rfl, .inr rfl, .inl rfl, hs⟩)

/-- What an awake committed state reads and fetches is what the state does. -/
theorem State.readByte_awake_commitEI (s : State) (a : Word) : s.commitEI.awake.readByte a = s.readByte a :=
  s.readByte_commitEI a

theorem State.fetched_awake_commitEI (s : State) : s.commitEI.awake.fetched = s.fetched := by
  unfold State.fetched State.opcode State.opcode2
  simp only [State.readByte_awake_commitEI, State.awake_pc, State.commitEI_pc]

theorem State.fetchedCycles_awake_commitEI (s : State) : s.commitEI.awake.fetchedCycles = s.fetchedCycles := by
  have hc : ∀ cc, s.commitEI.awake.condHolds cc = s.condHolds cc := by
    intro cc
    cases cc <;> simp [State.condHolds, State.flagZ, State.flagC]
  unfold State.fetchedCycles State.instrCycles State.opcode State.opcode2 branchTaken
  simp only [State.readByte_awake_commitEI, State.awake_pc, State.commitEI_pc, State.awake_cycleTable,
    State.commitEI_cycleTable, hc]

theorem State.pastFetch_awake_commitEI (s : State) :
    s.commitEI.awake.pastFetch
      = { s.commitEI.awake with pc := s.pc + BitVec.ofNat 16 (opLength (s.readByte s.pc)) } := by
  unfold State.pastFetch State.opcode
  rw [State.readByte_awake_commitEI, State.awake_pc, State.commitEI_pc]

/-- Running an instruction answers the state the instruction gives, with its cycles added. -/
theorem runInstruction_next (s t : State) (h : s.runInstruction = .next t) : ∃ u, exec s.fetched s.pastFetch = .next u ∧ t = u.addCycles s.fetchedCycles := by
  unfold State.runInstruction addCyclesTo at h
  split at h
  · rename_i u hu; injection h with h; exact ⟨u, hu, h.symm⟩
  · cases h
  · cases h

/-- No instruction writes a parameter or the cycle counter. -/
theorem exec_keeps_parameters (i : Instr) (s t : State) (h : exec i s = .next t) :
    t.rom = s.rom ∧ t.romLen = s.romLen ∧ t.romBanks = s.romBanks ∧ t.cycleTable = s.cycleTable
      ∧ t.cycles = s.cycles := by
  rcases exec_cases i s t h with ⟨_, hp⟩ | ⟨_, rfl⟩ | ⟨_, rfl⟩ | ⟨_, rfl⟩ | ⟨_, rfl⟩ | ⟨k, _, rfl⟩
  · exact ⟨hp.rom, hp.romLen, hp.romBanks, hp.cycleTable, hp.cycles⟩
  all_goals (try split) <;> exact ⟨rfl, rfl, rfl, rfl, rfl⟩

end Sys2Proof.Machine
end

