-- ==== Sys2Proof/Tests/Slice0.lean ====
section
/-! SUPPORT. The model's own tests. Expected values come from the spec: the words of the decode tests from the grid of
R118 and the CB map of R111; the step tests from spec/95_test_vectors.md (the vector's name stands in the comment). The
witnesses at the end show, for each obligation with hypotheses, concrete states and operands that meet them. -/

namespace Sys2Proof.Tests

open Sys2Proof Sys2Proof.Machine

/-! ## Well-formedness: an ill-formed term for each check -/

/-- A cartridge of `n` bytes `$00` with the type byte `t` (at `$0147`). -/
def cartridge (t : Byte) (banks : Nat) : Cartridge :=
  { image := List.replicate 0x147 0x00 ++ [t] ++ List.replicate 8 0x00, banks := banks }

theorem test_wf_accepts_every_type : (cartridge 0x00 2).wf = true ∧ (cartridge 0x01 4).wf = true
    ∧ (cartridge 0x02 64).wf = true ∧ (cartridge 0x03 128).wf = true := by decide +kernel

theorem test_wf_refuses_unsupported_type : (cartridge 0x04 2).wf = false ∧ (cartridge 0xFF 2).wf = false := by
  decide +kernel

theorem test_wf_refuses_short_image : ({ image := List.replicate 0x147 0x00, banks := 2 } : Cartridge).wf = false := by
  decide +kernel

theorem test_wf_refuses_no_power_of_two : (cartridge 0x01 3).wf = false ∧ (cartridge 0x01 6).wf = false := by
  decide +kernel

theorem test_wf_refuses_one_bank : (cartridge 0x00 1).wf = false ∧ (cartridge 0x00 0).wf = false := by decide +kernel

/-- `Instr.wf` asks nothing: no term is ill formed. -/
theorem test_wf_instruction : (Instr.ldBcD16 0xFFFF).wf = true ∧ Instr.set7A.wf = true := by decide

theorem test_recommended_banks : recommendedBanks (List.replicate 0x148 0x00 ++ [0x03]) = 16
    ∧ recommendedBanks (List.replicate 0x148 0x00 ++ [0xFF]) = 2 := by decide +kernel

/-! ## Decoding: every cell of the grid of R118 and of the CB map of R111, the operand bytes `$34`, `$12` -/

/-- The instruction each word decodes to, where it decodes with nothing left over. -/
def decodeAll (words : List (List Byte)) : List (Option Instr) :=
  words.map fun w => match decode w with
    | .ok (i, []) => some i
    | .ok (_, _ :: _) => none
    | .error _ => none

theorem test_decode_0x : decodeAll
    [[0x00], [0x01, 0x34, 0x12], [0x02], [0x03], [0x04], [0x05],
     [0x06, 0x34], [0x07], [0x08, 0x34, 0x12], [0x09], [0x0A], [0x0B],
     [0x0C], [0x0D], [0x0E, 0x34], [0x0F]]
    = [some .nop, some (.ldBcD16 0x1234), some .ldAtBcA, some .incBc,
       some .incB, some .decB, some (.ldBD8 0x34), some .rlca, some (.ldAtA16Sp 0x1234),
       some .addHlBc, some .ldAAtBc, some .decBc, some .incC, some .decC,
       some (.ldCD8 0x34), some .rrca] := by decide

theorem test_decode_1x : decodeAll
    [[0x10, 0x34], [0x11, 0x34, 0x12], [0x12], [0x13], [0x14], [0x15],
     [0x16, 0x34], [0x17], [0x18, 0x34], [0x19], [0x1A], [0x1B],
     [0x1C], [0x1D], [0x1E, 0x34], [0x1F]]
    = [some (.stop 0x34), some (.ldDeD16 0x1234), some .ldAtDeA, some .incDe,
       some .incD, some .decD, some (.ldDD8 0x34), some .rla, some (.jrR8 0x34),
       some .addHlDe, some .ldAAtDe, some .decDe, some .incE, some .decE,
       some (.ldED8 0x34), some .rra] := by decide

theorem test_decode_2x : decodeAll
    [[0x20, 0x34], [0x21, 0x34, 0x12], [0x22], [0x23], [0x24], [0x25],
     [0x26, 0x34], [0x27], [0x28, 0x34], [0x29], [0x2A], [0x2B],
     [0x2C], [0x2D], [0x2E, 0x34], [0x2F]]
    = [some (.jrNzR8 0x34), some (.ldHlD16 0x1234), some .ldAtHlIncA, some .incHl,
       some .incH, some .decH, some (.ldHD8 0x34), some .daa, some (.jrZR8 0x34),
       some .addHlHl, some .ldAAtHlInc, some .decHl, some .incL, some .decL,
       some (.ldLD8 0x34), some .cpl] := by decide

theorem test_decode_3x : decodeAll
    [[0x30, 0x34], [0x31, 0x34, 0x12], [0x32], [0x33], [0x34], [0x35],
     [0x36, 0x34], [0x37], [0x38, 0x34], [0x39], [0x3A], [0x3B],
     [0x3C], [0x3D], [0x3E, 0x34], [0x3F]]
    = [some (.jrNcR8 0x34), some (.ldSpD16 0x1234), some .ldAtHlDecA, some .incSp,
       some .incAtHl, some .decAtHl, some (.ldAtHlD8 0x34), some .scf, some (.jrCR8 0x34),
       some .addHlSp, some .ldAAtHlDec, some .decSp, some .incA, some .decA,
       some (.ldAD8 0x34), some .ccf] := by decide

theorem test_decode_4x : decodeAll
    [[0x40], [0x41], [0x42], [0x43], [0x44], [0x45],
     [0x46], [0x47], [0x48], [0x49], [0x4A], [0x4B],
     [0x4C], [0x4D], [0x4E], [0x4F]]
    = [some .ldBB, some .ldBC, some .ldBD, some .ldBE,
       some .ldBH, some .ldBL, some .ldBAtHl, some .ldBA, some .ldCB,
       some .ldCC, some .ldCD, some .ldCE, some .ldCH, some .ldCL,
       some .ldCAtHl, some .ldCA] := by decide

theorem test_decode_5x : decodeAll
    [[0x50], [0x51], [0x52], [0x53], [0x54], [0x55],
     [0x56], [0x57], [0x58], [0x59], [0x5A], [0x5B],
     [0x5C], [0x5D], [0x5E], [0x5F]]
    = [some .ldDB, some .ldDC, some .ldDD, some .ldDE,
       some .ldDH, some .ldDL, some .ldDAtHl, some .ldDA, some .ldEB,
       some .ldEC, some .ldED, some .ldEE, some .ldEH, some .ldEL,
       some .ldEAtHl, some .ldEA] := by decide

theorem test_decode_6x : decodeAll
    [[0x60], [0x61], [0x62], [0x63], [0x64], [0x65],
     [0x66], [0x67], [0x68], [0x69], [0x6A], [0x6B],
     [0x6C], [0x6D], [0x6E], [0x6F]]
    = [some .ldHB, some .ldHC, some .ldHD, some .ldHE,
       some .ldHH, some .ldHL, some .ldHAtHl, some .ldHA, some .ldLB,
       some .ldLC, some .ldLD, some .ldLE, some .ldLH, some .ldLL,
       some .ldLAtHl, some .ldLA] := by decide

theorem test_decode_7x : decodeAll
    [[0x70], [0x71], [0x72], [0x73], [0x74], [0x75],
     [0x76], [0x77], [0x78], [0x79], [0x7A], [0x7B],
     [0x7C], [0x7D], [0x7E], [0x7F]]
    = [some .ldAtHlB, some .ldAtHlC, some .ldAtHlD, some .ldAtHlE,
       some .ldAtHlH, some .ldAtHlL, some .halt, some .ldAtHlA, some .ldAB,
       some .ldAC, some .ldAD, some .ldAE, some .ldAH, some .ldAL,
       some .ldAAtHl, some .ldAA] := by decide

theorem test_decode_8x : decodeAll
    [[0x80], [0x81], [0x82], [0x83], [0x84], [0x85],
     [0x86], [0x87], [0x88], [0x89], [0x8A], [0x8B],
     [0x8C], [0x8D], [0x8E], [0x8F]]
    = [some .addAB, some .addAC, some .addAD, some .addAE,
       some .addAH, some .addAL, some .addAAtHl, some .addAA, some .adcAB,
       some .adcAC, some .adcAD, some .adcAE, some .adcAH, some .adcAL,
       some .adcAAtHl, some .adcAA] := by decide

theorem test_decode_9x : decodeAll
    [[0x90], [0x91], [0x92], [0x93], [0x94], [0x95],
     [0x96], [0x97], [0x98], [0x99], [0x9A], [0x9B],
     [0x9C], [0x9D], [0x9E], [0x9F]]
    = [some .subB, some .subC, some .subD, some .subE,
       some .subH, some .subL, some .subAtHl, some .subA, some .sbcAB,
       some .sbcAC, some .sbcAD, some .sbcAE, some .sbcAH, some .sbcAL,
       some .sbcAAtHl, some .sbcAA] := by decide

theorem test_decode_Ax : decodeAll
    [[0xA0], [0xA1], [0xA2], [0xA3], [0xA4], [0xA5],
     [0xA6], [0xA7], [0xA8], [0xA9], [0xAA], [0xAB],
     [0xAC], [0xAD], [0xAE], [0xAF]]
    = [some .andB, some .andC, some .andD, some .andE,
       some .andH, some .andL, some .andAtHl, some .andA, some .xorB,
       some .xorC, some .xorD, some .xorE, some .xorH, some .xorL,
       some .xorAtHl, some .xorA] := by decide

theorem test_decode_Bx : decodeAll
    [[0xB0], [0xB1], [0xB2], [0xB3], [0xB4], [0xB5],
     [0xB6], [0xB7], [0xB8], [0xB9], [0xBA], [0xBB],
     [0xBC], [0xBD], [0xBE], [0xBF]]
    = [some .orB, some .orC, some .orD, some .orE,
       some .orH, some .orL, some .orAtHl, some .orA, some .cpB,
       some .cpC, some .cpD, some .cpE, some .cpH, some .cpL,
       some .cpAtHl, some .cpA] := by decide

theorem test_decode_Cx : decodeAll
    [[0xC0], [0xC1], [0xC2, 0x34, 0x12], [0xC3, 0x34, 0x12], [0xC4, 0x34, 0x12], [0xC5],
     [0xC6, 0x34], [0xC7], [0xC8], [0xC9], [0xCA, 0x34, 0x12], [0xCC, 0x34, 0x12],
     [0xCD, 0x34, 0x12], [0xCE, 0x34], [0xCF]]
    = [some .retNz, some .popBc, some (.jpNzA16 0x1234), some (.jpA16 0x1234),
       some (.callNzA16 0x1234), some .pushBc, some (.addAD8 0x34), some .rst0, some .retZ,
       some .ret, some (.jpZA16 0x1234), some (.callZA16 0x1234), some (.callA16 0x1234), some (.adcAD8 0x34),
       some .rst1] := by decide

theorem test_decode_Dx : decodeAll
    [[0xD0], [0xD1], [0xD2, 0x34, 0x12], [0xD3], [0xD4, 0x34, 0x12], [0xD5],
     [0xD6, 0x34], [0xD7], [0xD8], [0xD9], [0xDA, 0x34, 0x12], [0xDB],
     [0xDC, 0x34, 0x12], [0xDD], [0xDE, 0x34], [0xDF]]
    = [some .retNc, some .popDe, some (.jpNcA16 0x1234), some .illegalD3,
       some (.callNcA16 0x1234), some .pushDe, some (.subD8 0x34), some .rst2, some .retC,
       some .reti, some (.jpCA16 0x1234), some .illegalDB, some (.callCA16 0x1234), some .illegalDD,
       some (.sbcAD8 0x34), some .rst3] := by decide

theorem test_decode_Ex : decodeAll
    [[0xE0, 0x34], [0xE1], [0xE2], [0xE3], [0xE4], [0xE5],
     [0xE6, 0x34], [0xE7], [0xE8, 0x34], [0xE9], [0xEA, 0x34, 0x12], [0xEB],
     [0xEC], [0xED], [0xEE, 0x34], [0xEF]]
    = [some (.ldhAtA8A 0x34), some .popHl, some .ldAtCA, some .illegalE3,
       some .illegalE4, some .pushHl, some (.andD8 0x34), some .rst4, some (.addSpR8 0x34),
       some .jpHl, some (.ldAtA16A 0x1234), some .illegalEB, some .illegalEC, some .illegalED,
       some (.xorD8 0x34), some .rst5] := by decide

theorem test_decode_Fx : decodeAll
    [[0xF0, 0x34], [0xF1], [0xF2], [0xF3], [0xF4], [0xF5],
     [0xF6, 0x34], [0xF7], [0xF8, 0x34], [0xF9], [0xFA, 0x34, 0x12], [0xFB],
     [0xFC], [0xFD], [0xFE, 0x34], [0xFF]]
    = [some (.ldhAAtA8 0x34), some .popAf, some .ldAAtC, some .di,
       some .illegalF4, some .pushAf, some (.orD8 0x34), some .rst6, some (.ldHlSpR8 0x34),
       some .ldSpHl, some (.ldAAtA16 0x1234), some .ei, some .illegalFC, some .illegalFD,
       some (.cpD8 0x34), some .rst7] := by decide

theorem test_decode_cb_0x : decodeAll
    [[0xCB, 0x00], [0xCB, 0x01], [0xCB, 0x02], [0xCB, 0x03], [0xCB, 0x04], [0xCB, 0x05],
     [0xCB, 0x06], [0xCB, 0x07], [0xCB, 0x08], [0xCB, 0x09], [0xCB, 0x0A], [0xCB, 0x0B],
     [0xCB, 0x0C], [0xCB, 0x0D], [0xCB, 0x0E], [0xCB, 0x0F]]
    = [some .rlcB, some .rlcC, some .rlcD, some .rlcE,
       some .rlcH, some .rlcL, some .rlcAtHl, some .rlcA, some .rrcB,
       some .rrcC, some .rrcD, some .rrcE, some .rrcH, some .rrcL,
       some .rrcAtHl, some .rrcA] := by decide

theorem test_decode_cb_1x : decodeAll
    [[0xCB, 0x10], [0xCB, 0x11], [0xCB, 0x12], [0xCB, 0x13], [0xCB, 0x14], [0xCB, 0x15],
     [0xCB, 0x16], [0xCB, 0x17], [0xCB, 0x18], [0xCB, 0x19], [0xCB, 0x1A], [0xCB, 0x1B],
     [0xCB, 0x1C], [0xCB, 0x1D], [0xCB, 0x1E], [0xCB, 0x1F]]
    = [some .rlB, some .rlC, some .rlD, some .rlE,
       some .rlH, some .rlL, some .rlAtHl, some .rlA, some .rrB,
       some .rrC, some .rrD, some .rrE, some .rrH, some .rrL,
       some .rrAtHl, some .rrA] := by decide

theorem test_decode_cb_2x : decodeAll
    [[0xCB, 0x20], [0xCB, 0x21], [0xCB, 0x22], [0xCB, 0x23], [0xCB, 0x24], [0xCB, 0x25],
     [0xCB, 0x26], [0xCB, 0x27], [0xCB, 0x28], [0xCB, 0x29], [0xCB, 0x2A], [0xCB, 0x2B],
     [0xCB, 0x2C], [0xCB, 0x2D], [0xCB, 0x2E], [0xCB, 0x2F]]
    = [some .slaB, some .slaC, some .slaD, some .slaE,
       some .slaH, some .slaL, some .slaAtHl, some .slaA, some .sraB,
       some .sraC, some .sraD, some .sraE, some .sraH, some .sraL,
       some .sraAtHl, some .sraA] := by decide

theorem test_decode_cb_3x : decodeAll
    [[0xCB, 0x30], [0xCB, 0x31], [0xCB, 0x32], [0xCB, 0x33], [0xCB, 0x34], [0xCB, 0x35],
     [0xCB, 0x36], [0xCB, 0x37], [0xCB, 0x38], [0xCB, 0x39], [0xCB, 0x3A], [0xCB, 0x3B],
     [0xCB, 0x3C], [0xCB, 0x3D], [0xCB, 0x3E], [0xCB, 0x3F]]
    = [some .swapB, some .swapC, some .swapD, some .swapE,
       some .swapH, some .swapL, some .swapAtHl, some .swapA, some .srlB,
       some .srlC, some .srlD, some .srlE, some .srlH, some .srlL,
       some .srlAtHl, some .srlA] := by decide

theorem test_decode_cb_4x : decodeAll
    [[0xCB, 0x40], [0xCB, 0x41], [0xCB, 0x42], [0xCB, 0x43], [0xCB, 0x44], [0xCB, 0x45],
     [0xCB, 0x46], [0xCB, 0x47], [0xCB, 0x48], [0xCB, 0x49], [0xCB, 0x4A], [0xCB, 0x4B],
     [0xCB, 0x4C], [0xCB, 0x4D], [0xCB, 0x4E], [0xCB, 0x4F]]
    = [some .bit0B, some .bit0C, some .bit0D, some .bit0E,
       some .bit0H, some .bit0L, some .bit0AtHl, some .bit0A, some .bit1B,
       some .bit1C, some .bit1D, some .bit1E, some .bit1H, some .bit1L,
       some .bit1AtHl, some .bit1A] := by decide

theorem test_decode_cb_5x : decodeAll
    [[0xCB, 0x50], [0xCB, 0x51], [0xCB, 0x52], [0xCB, 0x53], [0xCB, 0x54], [0xCB, 0x55],
     [0xCB, 0x56], [0xCB, 0x57], [0xCB, 0x58], [0xCB, 0x59], [0xCB, 0x5A], [0xCB, 0x5B],
     [0xCB, 0x5C], [0xCB, 0x5D], [0xCB, 0x5E], [0xCB, 0x5F]]
    = [some .bit2B, some .bit2C, some .bit2D, some .bit2E,
       some .bit2H, some .bit2L, some .bit2AtHl, some .bit2A, some .bit3B,
       some .bit3C, some .bit3D, some .bit3E, some .bit3H, some .bit3L,
       some .bit3AtHl, some .bit3A] := by decide

theorem test_decode_cb_6x : decodeAll
    [[0xCB, 0x60], [0xCB, 0x61], [0xCB, 0x62], [0xCB, 0x63], [0xCB, 0x64], [0xCB, 0x65],
     [0xCB, 0x66], [0xCB, 0x67], [0xCB, 0x68], [0xCB, 0x69], [0xCB, 0x6A], [0xCB, 0x6B],
     [0xCB, 0x6C], [0xCB, 0x6D], [0xCB, 0x6E], [0xCB, 0x6F]]
    = [some .bit4B, some .bit4C, some .bit4D, some .bit4E,
       some .bit4H, some .bit4L, some .bit4AtHl, some .bit4A, some .bit5B,
       some .bit5C, some .bit5D, some .bit5E, some .bit5H, some .bit5L,
       some .bit5AtHl, some .bit5A] := by decide

theorem test_decode_cb_7x : decodeAll
    [[0xCB, 0x70], [0xCB, 0x71], [0xCB, 0x72], [0xCB, 0x73], [0xCB, 0x74], [0xCB, 0x75],
     [0xCB, 0x76], [0xCB, 0x77], [0xCB, 0x78], [0xCB, 0x79], [0xCB, 0x7A], [0xCB, 0x7B],
     [0xCB, 0x7C], [0xCB, 0x7D], [0xCB, 0x7E], [0xCB, 0x7F]]
    = [some .bit6B, some .bit6C, some .bit6D, some .bit6E,
       some .bit6H, some .bit6L, some .bit6AtHl, some .bit6A, some .bit7B,
       some .bit7C, some .bit7D, some .bit7E, some .bit7H, some .bit7L,
       some .bit7AtHl, some .bit7A] := by decide

theorem test_decode_cb_8x : decodeAll
    [[0xCB, 0x80], [0xCB, 0x81], [0xCB, 0x82], [0xCB, 0x83], [0xCB, 0x84], [0xCB, 0x85],
     [0xCB, 0x86], [0xCB, 0x87], [0xCB, 0x88], [0xCB, 0x89], [0xCB, 0x8A], [0xCB, 0x8B],
     [0xCB, 0x8C], [0xCB, 0x8D], [0xCB, 0x8E], [0xCB, 0x8F]]
    = [some .res0B, some .res0C, some .res0D, some .res0E,
       some .res0H, some .res0L, some .res0AtHl, some .res0A, some .res1B,
       some .res1C, some .res1D, some .res1E, some .res1H, some .res1L,
       some .res1AtHl, some .res1A] := by decide

theorem test_decode_cb_9x : decodeAll
    [[0xCB, 0x90], [0xCB, 0x91], [0xCB, 0x92], [0xCB, 0x93], [0xCB, 0x94], [0xCB, 0x95],
     [0xCB, 0x96], [0xCB, 0x97], [0xCB, 0x98], [0xCB, 0x99], [0xCB, 0x9A], [0xCB, 0x9B],
     [0xCB, 0x9C], [0xCB, 0x9D], [0xCB, 0x9E], [0xCB, 0x9F]]
    = [some .res2B, some .res2C, some .res2D, some .res2E,
       some .res2H, some .res2L, some .res2AtHl, some .res2A, some .res3B,
       some .res3C, some .res3D, some .res3E, some .res3H, some .res3L,
       some .res3AtHl, some .res3A] := by decide

theorem test_decode_cb_Ax : decodeAll
    [[0xCB, 0xA0], [0xCB, 0xA1], [0xCB, 0xA2], [0xCB, 0xA3], [0xCB, 0xA4], [0xCB, 0xA5],
     [0xCB, 0xA6], [0xCB, 0xA7], [0xCB, 0xA8], [0xCB, 0xA9], [0xCB, 0xAA], [0xCB, 0xAB],
     [0xCB, 0xAC], [0xCB, 0xAD], [0xCB, 0xAE], [0xCB, 0xAF]]
    = [some .res4B, some .res4C, some .res4D, some .res4E,
       some .res4H, some .res4L, some .res4AtHl, some .res4A, some .res5B,
       some .res5C, some .res5D, some .res5E, some .res5H, some .res5L,
       some .res5AtHl, some .res5A] := by decide

theorem test_decode_cb_Bx : decodeAll
    [[0xCB, 0xB0], [0xCB, 0xB1], [0xCB, 0xB2], [0xCB, 0xB3], [0xCB, 0xB4], [0xCB, 0xB5],
     [0xCB, 0xB6], [0xCB, 0xB7], [0xCB, 0xB8], [0xCB, 0xB9], [0xCB, 0xBA], [0xCB, 0xBB],
     [0xCB, 0xBC], [0xCB, 0xBD], [0xCB, 0xBE], [0xCB, 0xBF]]
    = [some .res6B, some .res6C, some .res6D, some .res6E,
       some .res6H, some .res6L, some .res6AtHl, some .res6A, some .res7B,
       some .res7C, some .res7D, some .res7E, some .res7H, some .res7L,
       some .res7AtHl, some .res7A] := by decide

theorem test_decode_cb_Cx : decodeAll
    [[0xCB, 0xC0], [0xCB, 0xC1], [0xCB, 0xC2], [0xCB, 0xC3], [0xCB, 0xC4], [0xCB, 0xC5],
     [0xCB, 0xC6], [0xCB, 0xC7], [0xCB, 0xC8], [0xCB, 0xC9], [0xCB, 0xCA], [0xCB, 0xCB],
     [0xCB, 0xCC], [0xCB, 0xCD], [0xCB, 0xCE], [0xCB, 0xCF]]
    = [some .set0B, some .set0C, some .set0D, some .set0E,
       some .set0H, some .set0L, some .set0AtHl, some .set0A, some .set1B,
       some .set1C, some .set1D, some .set1E, some .set1H, some .set1L,
       some .set1AtHl, some .set1A] := by decide

theorem test_decode_cb_Dx : decodeAll
    [[0xCB, 0xD0], [0xCB, 0xD1], [0xCB, 0xD2], [0xCB, 0xD3], [0xCB, 0xD4], [0xCB, 0xD5],
     [0xCB, 0xD6], [0xCB, 0xD7], [0xCB, 0xD8], [0xCB, 0xD9], [0xCB, 0xDA], [0xCB, 0xDB],
     [0xCB, 0xDC], [0xCB, 0xDD], [0xCB, 0xDE], [0xCB, 0xDF]]
    = [some .set2B, some .set2C, some .set2D, some .set2E,
       some .set2H, some .set2L, some .set2AtHl, some .set2A, some .set3B,
       some .set3C, some .set3D, some .set3E, some .set3H, some .set3L,
       some .set3AtHl, some .set3A] := by decide

theorem test_decode_cb_Ex : decodeAll
    [[0xCB, 0xE0], [0xCB, 0xE1], [0xCB, 0xE2], [0xCB, 0xE3], [0xCB, 0xE4], [0xCB, 0xE5],
     [0xCB, 0xE6], [0xCB, 0xE7], [0xCB, 0xE8], [0xCB, 0xE9], [0xCB, 0xEA], [0xCB, 0xEB],
     [0xCB, 0xEC], [0xCB, 0xED], [0xCB, 0xEE], [0xCB, 0xEF]]
    = [some .set4B, some .set4C, some .set4D, some .set4E,
       some .set4H, some .set4L, some .set4AtHl, some .set4A, some .set5B,
       some .set5C, some .set5D, some .set5E, some .set5H, some .set5L,
       some .set5AtHl, some .set5A] := by decide

theorem test_decode_cb_Fx : decodeAll
    [[0xCB, 0xF0], [0xCB, 0xF1], [0xCB, 0xF2], [0xCB, 0xF3], [0xCB, 0xF4], [0xCB, 0xF5],
     [0xCB, 0xF6], [0xCB, 0xF7], [0xCB, 0xF8], [0xCB, 0xF9], [0xCB, 0xFA], [0xCB, 0xFB],
     [0xCB, 0xFC], [0xCB, 0xFD], [0xCB, 0xFE], [0xCB, 0xFF]]
    = [some .set6B, some .set6C, some .set6D, some .set6E,
       some .set6H, some .set6L, some .set6AtHl, some .set6A, some .set7B,
       some .set7C, some .set7D, some .set7E, some .set7H, some .set7L,
       some .set7AtHl, some .set7A] := by decide

/-- `$CB` alone and a `CALL` cut short do not decode; the bytes after an instruction are left (R103). -/
theorem test_decode_short : decode [0xCB] = .error .outOfBytes ∧ decode [0xCD, 0x20] = .error .outOfBytes
    ∧ decode [] = .error .outOfBytes ∧ decode [0x3E, 0x42, 0x99] = .ok (.ldAD8 0x42, [0x99]) := by
  refine ⟨rfl, rfl, rfl, rfl⟩

/-- The table's numbering: the first byte lowest, a CB row with its prefix in bits 15..8 (R119, log 25). -/
theorem test_decode_table_word : decodeTableWord 8 0x3E = some (.ldAD8 0x00)
    ∧ decodeTableWord 16 0xCBFE = some .set7AtHl ∧ decodeTableWord 8 0xD3 = some .illegalD3 := by
  refine ⟨rfl, rfl, rfl⟩

/-- A placed word runs as the first instruction after reset. -/
theorem test_place_word : nextState? (step (State.reset.withFetchWord 16 0xCBD8))
    = nextState? (addCyclesTo 2 (exec .set3B { State.reset.withFetchWord 16 0xCBD8 with pc := 0x0102 })) := by decide +kernel

/-! ## Steps: vectors of spec/95_test_vectors.md -/

/-- The reset machine with code at `$0100` of a 32 KiB image. -/
def machine (code : List Byte) : State :=
  { State.reset with rom := Memory.ofBytes 0xFF 0x0100 code, romLen := 0x8000 }

/-- The same machine with bytes stored through the MMU. -/
def stored (s : State) (cells : List (Word × Byte)) : State := cells.foldl (fun t c => t.writeByte c.1 c.2) s

/-- The state after a step. -/
def after (s : State) : State := (nextState? (step s)).getD s

/-- V40.1. -/
theorem test_nop :
    let t := after (machine [0x00])
    t.pc = 0x0101 ∧ t.f = 0x00 ∧ t.cycles = 1 := by decide

/-- V40.4. -/
theorem test_stop_consumes_a_byte :
    let t := after (machine [0x10, 0x76])
    t.pc = 0x0102 ∧ t.f = 0x00 ∧ t.cycles = 1 := by decide

/-- V41.1. -/
theorem test_ldBC :
    let t := after { machine [0x41] with c := 0x5A, f := 0xF0 }
    t.b = 0x5A ∧ t.pc = 0x0101 ∧ t.f = 0xF0 ∧ t.cycles = 1 := by decide

/-- V41.3. -/
theorem test_ldHAtHl :
    let t := after (stored { machine [0x66] with h := 0xC0, l := 0x10 } [(0xC010, 0xD1)])
    t.h = 0xD1 ∧ t.pc = 0x0101 ∧ t.l = 0x10 ∧ t.f = 0x00 ∧ t.cycles = 2 := by decide

/-- V41.5. -/
theorem test_ldAtHlL :
    let t := after { machine [0x75] with h := 0xC0, l := 0x34 }
    t.pc = 0x0101 ∧ t.h = 0xC0 ∧ t.l = 0x34 ∧ t.f = 0x00 ∧ t.readByte 0xC034 = 0x34 ∧ t.cycles = 2 := by decide

/-- V41.6. -/
theorem test_ldED8 :
    let t := after (machine [0x1E, 0x42])
    t.e = 0x42 ∧ t.pc = 0x0102 ∧ t.f = 0x00 ∧ t.cycles = 2 := by decide

/-- V41.8. -/
theorem test_ldAtHlD8_bank :
    let t := after { machine [0x36, 0x00] with h := 0x20, l := 0x00, romBankLow5 := 9 }
    t.pc = 0x0102 ∧ t.romBankLow5 = 1 ∧ t.h = 0x20 ∧ t.l = 0x00 ∧ t.f = 0x00 ∧ t.cycles = 3 := by decide

/-- V41.10. -/
theorem test_ldAtBcA :
    let t := after { machine [0x02] with a := 0x3C, b := 0x80, c := 0x00 }
    t.pc = 0x0101 ∧ t.a = 0x3C ∧ t.f = 0x00 ∧ t.readByte 0x8000 = 0x3C ∧ t.cycles = 2 := by decide

/-- V41.11. -/
theorem test_ldAtDeA :
    let t := after { machine [0x12] with a := 0x3D, d := 0xFE, e := 0x00 }
    t.pc = 0x0101 ∧ t.a = 0x3D ∧ t.f = 0x00 ∧ t.readByte 0xFE00 = 0x3D ∧ t.cycles = 2 := by decide

/-- V41.12. -/
theorem test_ldAtHlIncA :
    let t := after { machine [0x22] with a := 0x1F, h := 0xFF, l := 0xFF }
    t.h = 0x00 ∧ t.l = 0x00 ∧ t.pc = 0x0101 ∧ t.a = 0x1F ∧ t.f = 0x00 ∧ t.readByte 0xFFFF = 0x1F
    ∧ t.cycles = 2 := by decide

/-- V41.14. -/
theorem test_ldAtHlDecA :
    let t := after { machine [0x32] with a := 0x0A, h := 0x00, l := 0x00 }
    t.h = 0xFF ∧ t.l = 0xFF ∧ t.pc = 0x0101 ∧ t.ramEnable = true ∧ t.a = 0x0A ∧ t.f = 0x00 ∧ t.cycles = 2 := by decide

/-- V41.16. -/
theorem test_ldAAtDe :
    let t := after (stored { machine [0x1A] with d := 0xD1, e := 0x23 } [(0xD123, 0x9C)])
    t.a = 0x9C ∧ t.pc = 0x0101 ∧ t.f = 0x00 ∧ t.cycles = 2 := by decide

/-- V41.17. -/
theorem test_ldAAtHlInc :
    let t := after (stored { machine [0x2A] with h := 0xC0, l := 0xFF } [(0xC0FF, 0x12)])
    t.a = 0x12 ∧ t.h = 0xC1 ∧ t.l = 0x00 ∧ t.pc = 0x0101 ∧ t.f = 0x00 ∧ t.cycles = 2 := by decide

/-- V41.19. -/
theorem test_ldAtA16A_echo :
    let t := after { machine [0xEA, 0x00, 0xE0] with a := 0x5A }
    t.pc = 0x0103 ∧ t.a = 0x5A ∧ t.f = 0x00 ∧ t.readByte 0xC000 = 0x5A ∧ t.readByte 0xE000 = 0x5A
    ∧ t.cycles = 4 := by decide

/-- V41.20. -/
theorem test_ldAAtA16_disabled :
    let t := after { machine [0xFA, 0x00, 0xA0] with a := 0x00 }
    t.a = 0xFF ∧ t.pc = 0x0103 ∧ t.f = 0x00 ∧ t.cycles = 4 := by decide

/-- V41.22. -/
theorem test_ldhAtA8A :
    let t := after { machine [0xE0, 0x80] with a := 0x42 }
    t.pc = 0x0102 ∧ t.a = 0x42 ∧ t.f = 0x00 ∧ t.readByte 0xFF80 = 0x42 ∧ t.cycles = 3 := by decide

/-- V41.24. -/
theorem test_ldhAAtA8 :
    let t := after (stored (machine [0xF0, 0x0F]) [(0xFF0F, 0xE5)])
    t.a = 0xE5 ∧ t.pc = 0x0102 ∧ t.f = 0x00 ∧ t.cycles = 3 := by decide

/-- V41.26. -/
theorem test_ldAAtC :
    let t := after (stored { machine [0xF2] with c := 0xFF } [(0xFFFF, 0x1B)])
    t.a = 0x1B ∧ t.pc = 0x0101 ∧ t.f = 0x00 ∧ t.cycles = 2 := by decide

/-- V42.1. -/
theorem test_ldBcD16 :
    let t := after (machine [0x01, 0x34, 0x12])
    t.b = 0x12 ∧ t.c = 0x34 ∧ t.pc = 0x0103 ∧ t.f = 0x00 ∧ t.cycles = 3 := by decide

/-- V42.4. -/
theorem test_ldAtA16Sp :
    let t := after { machine [0x08, 0x00, 0xC0] with sp := 0xABCD }
    t.pc = 0x0103 ∧ t.sp = 0xABCD ∧ t.f = 0x00 ∧ t.readByte 0xC000 = 0xCD ∧ t.readByte 0xC001 = 0xAB
    ∧ t.cycles = 5 := by decide

/-- V42.5. -/
theorem test_ldAtA16Sp_wraps :
    let t := after { machine [0x08, 0xFF, 0xFF] with sp := 0x0A1F }
    t.pc = 0x0103 ∧ t.ramEnable = true ∧ t.sp = 0x0A1F ∧ t.f = 0x00 ∧ t.readByte 0xFFFF = 0x1F
    ∧ t.cycles = 5 := by decide

/-- V42.6. -/
theorem test_ldSpHl :
    let t := after { machine [0xF9] with h := 0xD0, l := 0x00, f := 0xF0 }
    t.sp = 0xD000 ∧ t.pc = 0x0101 ∧ t.h = 0xD0 ∧ t.l = 0x00 ∧ t.f = 0xF0 ∧ t.cycles = 2 := by decide

/-- V42.8. -/
theorem test_ldHlSpR8_negative :
    let t := after { machine [0xF8, 0xFE] with sp := 0xFFFE }
    t.f = 0x30 ∧ t.h = 0xFF ∧ t.l = 0xFC ∧ t.pc = 0x0102 ∧ t.sp = 0xFFFE ∧ t.cycles = 3 := by decide

/-- V42.11. -/
theorem test_ldHlSpR8_carry :
    let t := after { machine [0xF8, 0x80] with sp := 0x0080 }
    t.f = 0x10 ∧ t.pc = 0x0102 ∧ t.sp = 0x0080 ∧ t.cycles = 3 := by decide

/-- V43.1. -/
theorem test_incBc :
    let t := after { machine [0x03] with b := 0xFF, c := 0xFF, f := 0xF0 }
    t.b = 0x00 ∧ t.c = 0x00 ∧ t.pc = 0x0101 ∧ t.f = 0xF0 ∧ t.cycles = 2 := by decide

/-- V43.2. -/
theorem test_decSp :
    let t := after { machine [0x3B] with sp := 0x0000, f := 0x00 }
    t.sp = 0xFFFF ∧ t.pc = 0x0101 ∧ t.f = 0x00 ∧ t.cycles = 2 := by decide

/-- V43.4. -/
theorem test_decDe :
    let t := after { machine [0x1B] with d := 0x01, e := 0x00 }
    t.d = 0x00 ∧ t.e = 0xFF ∧ t.pc = 0x0101 ∧ t.f = 0x00 ∧ t.cycles = 2 := by decide

/-- V43.6. -/
theorem test_addHlDe :
    let t := after { machine [0x19] with h := 0x80, l := 0x00, d := 0x80, e := 0x00, f := 0x40 }
    t.f = 0x10 ∧ t.h = 0x00 ∧ t.pc = 0x0101 ∧ t.l = 0x00 ∧ t.cycles = 2 := by decide

/-- V43.7. -/
theorem test_addHlHl :
    let t := after { machine [0x29] with h := 0x88, l := 0x00, f := 0x80 }
    t.f = 0xB0 ∧ t.h = 0x10 ∧ t.pc = 0x0101 ∧ t.l = 0x00 ∧ t.cycles = 2 := by decide

/-- V43.10. -/
theorem test_addSpR8 :
    let t := after { machine [0xE8, 0x02] with sp := 0xFFFE, f := 0xF0 }
    t.f = 0x30 ∧ t.sp = 0x0000 ∧ t.pc = 0x0102 ∧ t.cycles = 4 := by decide

/-- V43.12. -/
theorem test_addSpR8_negative :
    let t := after { machine [0xE8, 0xFF] with sp := 0xC001 }
    t.f = 0x30 ∧ t.sp = 0xC000 ∧ t.pc = 0x0102 ∧ t.cycles = 4 := by decide

/-- V44.1. -/
theorem test_incB :
    let t := after { machine [0x04] with b := 0xFF, f := 0x10 }
    t.f = 0xB0 ∧ t.b = 0x00 ∧ t.pc = 0x0101 ∧ t.cycles = 1 := by decide

/-- V44.4. -/
theorem test_decB :
    let t := after { machine [0x05] with b := 0x01 }
    t.f = 0xC0 ∧ t.b = 0x00 ∧ t.pc = 0x0101 ∧ t.cycles = 1 := by decide

/-- V44.5. -/
theorem test_decC :
    let t := after { machine [0x0D] with c := 0x00 }
    t.f = 0x60 ∧ t.c = 0xFF ∧ t.pc = 0x0101 ∧ t.cycles = 1 := by decide

/-- V44.7. -/
theorem test_incAtHl :
    let t := after (stored { machine [0x34] with h := 0xC0, l := 0x00 } [(0xC000, 0xFF)])
    t.f = 0xA0 ∧ t.pc = 0x0101 ∧ t.h = 0xC0 ∧ t.l = 0x00 ∧ t.readByte 0xC000 = 0x00 ∧ t.cycles = 3 := by decide

/-- V44.8. -/
theorem test_decAtHl :
    let t := after (stored { machine [0x35] with h := 0xFF, l := 0x80 } [(0xFF80, 0x01)])
    t.f = 0xC0 ∧ t.pc = 0x0101 ∧ t.h = 0xFF ∧ t.l = 0x80 ∧ t.readByte 0xFF80 = 0x00 ∧ t.cycles = 3 := by decide

/-- V44.10. -/
theorem test_addAB :
    let t := after { machine [0x80] with a := 0x3A, b := 0xC6 }
    t.a = 0x00 ∧ t.f = 0xB0 ∧ t.pc = 0x0101 ∧ t.cycles = 1 := by decide

/-- V44.12. -/
theorem test_addAD :
    let t := after { machine [0x82] with a := 0xF0, d := 0x10 }
    t.a = 0x00 ∧ t.f = 0x90 ∧ t.pc = 0x0101 ∧ t.cycles = 1 := by decide

/-- V44.14. -/
theorem test_addAAtHl :
    let t := after (stored { machine [0x86] with a := 0x01, h := 0xC0, l := 0x10 } [(0xC010, 0x7F)])
    t.a = 0x80 ∧ t.f = 0x20 ∧ t.pc = 0x0101 ∧ t.h = 0xC0 ∧ t.l = 0x10 ∧ t.cycles = 2 := by decide

/-- V44.16. -/
theorem test_adcAE :
    let t := after { machine [0x8B] with a := 0xFF, e := 0x00, f := 0x10 }
    t.a = 0x00 ∧ t.f = 0xB0 ∧ t.pc = 0x0101 ∧ t.cycles = 1 := by decide

/-- V44.19. -/
theorem test_adcAD8 :
    let t := after { machine [0xCE, 0x80] with a := 0x7F, f := 0x10 }
    t.a = 0x00 ∧ t.f = 0xB0 ∧ t.pc = 0x0102 ∧ t.cycles = 2 := by decide

/-- V44.21. -/
theorem test_subC :
    let t := after { machine [0x91] with a := 0x10, c := 0x01 }
    t.a = 0x0F ∧ t.f = 0x60 ∧ t.pc = 0x0101 ∧ t.cycles = 1 := by decide

/-- V44.24. -/
theorem test_subAtHl :
    let t := after (stored { machine [0x96] with a := 0x3E, h := 0xC0, l := 0x00 } [(0xC000, 0x40)])
    t.a = 0xFE ∧ t.f = 0x50 ∧ t.pc = 0x0101 ∧ t.h = 0xC0 ∧ t.l = 0x00 ∧ t.cycles = 2 := by decide

/-- V44.26. -/
theorem test_sbcAC :
    let t := after { machine [0x99] with a := 0x10, c := 0x0F, f := 0x10 }
    t.a = 0x00 ∧ t.f = 0xE0 ∧ t.pc = 0x0101 ∧ t.cycles = 1 := by decide

/-- V44.27. -/
theorem test_sbcAD8 :
    let t := after { machine [0xDE, 0x4F] with a := 0x3B, f := 0x10 }
    t.a = 0xEB ∧ t.f = 0x70 ∧ t.pc = 0x0102 ∧ t.cycles = 2 := by decide

/-- V44.29. -/
theorem test_andB :
    let t := after { machine [0xA0] with a := 0x5A, b := 0x3F, f := 0x50 }
    t.a = 0x1A ∧ t.f = 0x20 ∧ t.pc = 0x0101 ∧ t.cycles = 1 := by decide

/-- V44.32. -/
theorem test_xorA :
    let t := after { machine [0xAF] with a := 0x5A, f := 0xF0 }
    t.a = 0x00 ∧ t.f = 0x80 ∧ t.pc = 0x0101 ∧ t.cycles = 1 := by decide

/-- V44.36. -/
theorem test_orD8 :
    let t := after { machine [0xF6, 0x0F] with a := 0x50 }
    t.a = 0x5F ∧ t.pc = 0x0102 ∧ t.f = 0x00 ∧ t.cycles = 2 := by decide

/-- V44.39. -/
theorem test_cpD8 :
    let t := after { machine [0xFE, 0x40] with a := 0x3C }
    t.f = 0x50 ∧ t.pc = 0x0102 ∧ t.a = 0x3C ∧ t.cycles = 2 := by decide

/-- V44.41. -/
theorem test_cpAtHl :
    let t := after (stored { machine [0xBE] with a := 0x00, h := 0xC0, l := 0x00 } [(0xC000, 0x01)])
    t.f = 0x70 ∧ t.pc = 0x0101 ∧ t.a = 0x00 ∧ t.h = 0xC0 ∧ t.l = 0x00 ∧ t.cycles = 2 := by decide

/-- V45.1. -/
theorem test_rlca :
    let t := after { machine [0x07] with a := 0x85, f := 0xE0 }
    t.a = 0x0B ∧ t.f = 0x10 ∧ t.pc = 0x0101 ∧ t.cycles = 1 := by decide

/-- V45.2. -/
theorem test_rlca_zero :
    let t := after { machine [0x07] with a := 0x00, f := 0xF0 }
    t.f = 0x00 ∧ t.pc = 0x0101 ∧ t.a = 0x00 ∧ t.cycles = 1 := by decide

/-- V45.4. -/
theorem test_rrca :
    let t := after { machine [0x0F] with a := 0x3A, f := 0x10 }
    t.a = 0x1D ∧ t.f = 0x00 ∧ t.pc = 0x0101 ∧ t.cycles = 1 := by decide

/-- V45.6. -/
theorem test_rla :
    let t := after { machine [0x17] with a := 0x95, f := 0x10 }
    t.a = 0x2B ∧ t.pc = 0x0101 ∧ t.f = 0x10 ∧ t.cycles = 1 := by decide

/-- V45.8. -/
theorem test_rra :
    let t := after { machine [0x1F] with a := 0x81, f := 0x10 }
    t.a = 0xC0 ∧ t.pc = 0x0101 ∧ t.f = 0x10 ∧ t.cycles = 1 := by decide

/-- V45.10. -/
theorem test_daa_add :
    let t := after { machine [0x27] with a := 0x9A, f := 0x00 }
    t.a = 0x00 ∧ t.f = 0x90 ∧ t.pc = 0x0101 ∧ t.cycles = 1 := by decide

/-- V45.15. -/
theorem test_daa_subtract :
    let t := after { machine [0x27] with a := 0xFF, f := 0x70 }
    t.a = 0x99 ∧ t.f = 0x50 ∧ t.pc = 0x0101 ∧ t.cycles = 1 := by decide

/-- V45.19. -/
theorem test_cpl :
    let t := after { machine [0x2F] with a := 0x35, f := 0x90 }
    t.a = 0xCA ∧ t.f = 0xF0 ∧ t.pc = 0x0101 ∧ t.cycles = 1 := by decide

/-- V45.20. -/
theorem test_scf :
    let t := after { machine [0x37] with f := 0xE0 }
    t.f = 0x90 ∧ t.pc = 0x0101 ∧ t.cycles = 1 := by decide

/-- V45.21. -/
theorem test_ccf :
    let t := after { machine [0x3F] with f := 0xF0 }
    t.f = 0x80 ∧ t.pc = 0x0101 ∧ t.cycles = 1 := by decide

/-- V46.2. -/
theorem test_jpNz_taken :
    let t := after { machine [0xC2, 0x34, 0x12] with f := 0x00 }
    t.pc = 0x1234 ∧ t.f = 0x00 ∧ t.cycles = 4 := by decide

/-- V46.5. -/
theorem test_jpNc_not_taken :
    let t := after { machine [0xD2, 0x34, 0x12] with f := 0x10 }
    t.pc = 0x0103 ∧ t.f = 0x10 ∧ t.cycles = 3 := by decide

/-- V46.7. -/
theorem test_jpHl :
    let t := after { machine [0xE9] with h := 0xC1, l := 0x23 }
    t.pc = 0xC123 ∧ t.h = 0xC1 ∧ t.l = 0x23 ∧ t.f = 0x00 ∧ t.cycles = 1 := by decide

/-- V46.9. -/
theorem test_jr_negative :
    let t := after (machine [0x18, 0xFE])
    t.pc = 0x0100 ∧ t.f = 0x00 ∧ t.cycles = 3 := by decide

/-- V46.17. -/
theorem test_jrC_not_taken :
    let t := after { machine [0x38, 0x01] with f := 0xE0 }
    t.pc = 0x0102 ∧ t.f = 0xE0 ∧ t.cycles = 2 := by decide

/-- V46.18. -/
theorem test_callA16 :
    let t := after (machine [0xCD, 0x20, 0x01])
    t.sp = 0xFFFC ∧ t.pc = 0x0120 ∧ t.f = 0x00 ∧ t.readByte 0xFFFC = 0x03 ∧ t.readByte 0xFFFD = 0x01
    ∧ t.cycles = 6 := by decide

/-- V46.19. -/
theorem test_callZ_not_taken :
    let t := after { machine [0xCC, 0x00, 0x02] with f := 0x00 }
    t.pc = 0x0103 ∧ t.f = 0x00 ∧ t.readByte 0xFFFC = 0x00 ∧ t.readByte 0xFFFD = 0x00 ∧ t.cycles = 3 := by decide

/-- V46.27. -/
theorem test_retNz_taken :
    let t := after (stored { machine [0xC0] with sp := 0xC000, f := 0x00 } [(0xC000, 0x34), (0xC001, 0x12)])
    t.sp = 0xC002 ∧ t.pc = 0x1234 ∧ t.f = 0x00 ∧ t.cycles = 5 := by decide

/-- V46.30. -/
theorem test_retNc_not_taken :
    let t := after (stored { machine [0xD0] with sp := 0xC000, f := 0x10 } [(0xC000, 0x34), (0xC001, 0x12)])
    t.pc = 0x0101 ∧ t.sp = 0xC000 ∧ t.f = 0x10 ∧ t.cycles = 2 := by decide

/-- V46.33. -/
theorem test_reti :
    let t := after (stored { machine [0xD9] with sp := 0xC000 } [(0xC000, 0x34), (0xC001, 0x12)])
    t.sp = 0xC002 ∧ t.pc = 0x1234 ∧ t.ime = true ∧ t.f = 0x00 ∧ t.cycles = 4 := by decide

/-- V46.38. -/
theorem test_rst7 :
    let t := after (machine [0xFF])
    t.sp = 0xFFFC ∧ t.pc = 0x0038 ∧ t.f = 0x00 ∧ t.readByte 0xFFFC = 0x01 ∧ t.readByte 0xFFFD = 0x01
    ∧ t.cycles = 4 := by decide

/-- V47.2. -/
theorem test_pushAf :
    let t := after { machine [0xF5] with a := 0x12, f := 0xB0 }
    t.sp = 0xFFFC ∧ t.pc = 0x0101 ∧ t.a = 0x12 ∧ t.f = 0xB0 ∧ t.readByte 0xFFFC = 0xB0 ∧ t.readByte 0xFFFD = 0x12
    ∧ t.cycles = 4 := by decide

/-- V47.4. -/
theorem test_pushDe_wraps :
    let t := after { machine [0xD5] with d := 0xA5, e := 0x5A, sp := 0x0000 }
    t.sp = 0xFFFE ∧ t.pc = 0x0101 ∧ t.f = 0x00 ∧ t.readByte 0xFFFE = 0x5A ∧ t.readByte 0xFFFF = 0xA5
    ∧ t.cycles = 4 := by decide

/-- V47.6. -/
theorem test_popBc :
    let t := after (stored { machine [0xC1] with sp := 0xC000 } [(0xC000, 0x34), (0xC001, 0x12)])
    t.b = 0x12 ∧ t.c = 0x34 ∧ t.sp = 0xC002 ∧ t.pc = 0x0101 ∧ t.f = 0x00 ∧ t.cycles = 3 := by decide

/-- V47.7. -/
theorem test_popAf_masks :
    let t := after (stored { machine [0xF1] with sp := 0xC000 } [(0xC000, 0xFF), (0xC001, 0x12)])
    t.a = 0x12 ∧ t.f = 0xF0 ∧ t.sp = 0xC002 ∧ t.pc = 0x0101 ∧ t.cycles = 3 := by decide

/-- V48.1. -/
theorem test_ei :
    let t := after (machine [0xFB])
    t.pc = 0x0101 ∧ t.imePending = true ∧ t.eiJust = true ∧ t.f = 0x00 ∧ t.cycles = 1 := by decide

/-- V48.8. -/
theorem test_di :
    let t := after { machine [0xF3] with ime := true }
    t.pc = 0x0101 ∧ t.ime = false ∧ t.f = 0x00 ∧ t.cycles = 1 := by decide

/-- V49.1. -/
theorem test_rlcB :
    let t := after { machine [0xCB, 0x00] with b := 0x85, f := 0xE0 }
    t.f = 0x10 ∧ t.b = 0x0B ∧ t.pc = 0x0102 ∧ t.cycles = 2 := by decide

/-- V49.2. -/
theorem test_rlcA_zero :
    let t := after { machine [0xCB, 0x07] with a := 0x00 }
    t.f = 0x80 ∧ t.pc = 0x0102 ∧ t.a = 0x00 ∧ t.cycles = 2 := by decide

/-- V49.4. -/
theorem test_rrcC :
    let t := after { machine [0xCB, 0x09] with c := 0x01 }
    t.f = 0x10 ∧ t.c = 0x80 ∧ t.pc = 0x0102 ∧ t.cycles = 2 := by decide

/-- V49.7. -/
theorem test_rlE :
    let t := after { machine [0xCB, 0x13] with e := 0x11, f := 0x10 }
    t.f = 0x00 ∧ t.e = 0x23 ∧ t.pc = 0x0102 ∧ t.cycles = 2 := by decide

/-- V49.9. -/
theorem test_rrA :
    let t := after { machine [0xCB, 0x1F] with a := 0x8A, f := 0x10 }
    t.a = 0xC5 ∧ t.f = 0x00 ∧ t.pc = 0x0102 ∧ t.cycles = 2 := by decide

/-- V49.11. -/
theorem test_slaL :
    let t := after { machine [0xCB, 0x25] with l := 0xFF, f := 0x00 }
    t.f = 0x10 ∧ t.l = 0xFE ∧ t.pc = 0x0102 ∧ t.cycles = 2 := by decide

/-- V49.14. -/
theorem test_sraAtHl :
    let t := after (stored { machine [0xCB, 0x2E] with h := 0xC0, l := 0x00 } [(0xC000, 0xFE)])
    t.pc = 0x0102 ∧ t.h = 0xC0 ∧ t.l = 0x00 ∧ t.f = 0x00 ∧ t.readByte 0xC000 = 0xFF ∧ t.cycles = 4 := by decide

/-- V49.15. -/
theorem test_swapA :
    let t := after { machine [0xCB, 0x37] with a := 0xF1, f := 0xF0 }
    t.a = 0x1F ∧ t.f = 0x00 ∧ t.pc = 0x0102 ∧ t.cycles = 2 := by decide

/-- V49.19. -/
theorem test_srlC :
    let t := after { machine [0xCB, 0x39] with c := 0xFF }
    t.f = 0x10 ∧ t.c = 0x7F ∧ t.pc = 0x0102 ∧ t.cycles = 2 := by decide

/-- V49.20. -/
theorem test_bit7H :
    let t := after { machine [0xCB, 0x7C] with h := 0x80, f := 0x50 }
    t.f = 0x30 ∧ t.pc = 0x0102 ∧ t.h = 0x80 ∧ t.cycles = 2 := by decide

/-- V49.22. -/
theorem test_bit7AtHl :
    let t := after (stored { machine [0xCB, 0x7E] with h := 0xC0, l := 0x00 } [(0xC000, 0x7F)])
    t.f = 0xA0 ∧ t.pc = 0x0102 ∧ t.h = 0xC0 ∧ t.l = 0x00 ∧ t.readByte 0xC000 = 0x7F ∧ t.cycles = 3 := by decide

/-- V49.24. -/
theorem test_res0A :
    let t := after { machine [0xCB, 0x87] with a := 0xFF, f := 0xF0 }
    t.a = 0xFE ∧ t.pc = 0x0102 ∧ t.f = 0xF0 ∧ t.cycles = 2 := by decide

/-- V49.25. -/
theorem test_res7AtHl :
    let t := after (stored { machine [0xCB, 0xBE] with h := 0xC0, l := 0x00 } [(0xC000, 0xFF)])
    t.pc = 0x0102 ∧ t.h = 0xC0 ∧ t.l = 0x00 ∧ t.f = 0x00 ∧ t.readByte 0xC000 = 0x7F ∧ t.cycles = 4 := by decide

/-- V49.26. -/
theorem test_set3B :
    let t := after { machine [0xCB, 0xD8] with b := 0x00, f := 0x00 }
    t.b = 0x08 ∧ t.pc = 0x0102 ∧ t.f = 0x00 ∧ t.cycles = 2 := by decide

/-- V49.32. -/
theorem test_set0AtHl_prohibited :
    let t := after { machine [0xCB, 0xC6] with h := 0xFE, l := 0xA0 }
    t.pc = 0x0102 ∧ t.h = 0xFE ∧ t.l = 0xA0 ∧ t.f = 0x00 ∧ t.readByte 0xFEA0 = 0xFF ∧ t.cycles = 4 := by decide

/-- M5. -/
theorem test_bank_coerced :
    let t := after { machine [0x77] with a := 0x20, h := 0x3F, l := 0xFF, romBankLow5 := 7 }
    t.pc = 0x0101 ∧ t.romBankLow5 = 1 ∧ t.a = 0x20 ∧ t.h = 0x3F ∧ t.l = 0xFF ∧ t.f = 0x00 ∧ t.cycles = 2 := by decide

/-- M19. -/
theorem test_cart_ram_bank :
    let t := after
      { machine [0x77] with a := 0x78, h := 0xA0, l := 0x00, ramEnable := true, romBankHigh2 := 2, bankingMode := true }
    t.pc = 0x0101 ∧ t.a = 0x78 ∧ t.h = 0xA0 ∧ t.l = 0x00 ∧ t.f = 0x00 ∧ t.readByte 0xA000 = 0x78
    ∧ t.cycles = 2 := by decide

/-- X3. -/
theorem test_timer_dispatch :
    let t := after (stored { machine [0x00] with ime := true } [(0xFFFF, 0x04), (0xFF0F, 0x04)])
    t.sp = 0xFFFC ∧ t.pc = 0x0050 ∧ t.ime = false ∧ t.f = 0x00 ∧ t.readByte 0xFF0F = 0x00
    ∧ t.readByte 0xFFFC = 0x00 ∧ t.readByte 0xFFFD = 0x01 ∧ t.cycles = 5 := by decide

/-- X7. -/
theorem test_priority :
    let t := after (stored { machine [0x00] with ime := true } [(0xFFFF, 0x14), (0xFF0F, 0x1F)])
    t.sp = 0xFFFC ∧ t.pc = 0x0050 ∧ t.ime = false ∧ t.f = 0x00 ∧ t.readByte 0xFF0F = 0x1B
    ∧ t.readByte 0xFFFC = 0x00 ∧ t.readByte 0xFFFD = 0x01 ∧ t.cycles = 5 := by decide

/-- X11. -/
theorem test_upper_if_bits :
    let t := after (stored { machine [0x00] with ime := true } [(0xFFFF, 0xFF), (0xFF0F, 0xE1)])
    t.sp = 0xFFFC ∧ t.pc = 0x0040 ∧ t.ime = false ∧ t.f = 0x00 ∧ t.readByte 0xFF0F = 0xE0
    ∧ t.readByte 0xFFFC = 0x00 ∧ t.readByte 0xFFFD = 0x01 ∧ t.cycles = 5 := by decide

/-- X13. -/
theorem test_idle :
    let t := after { machine [0x00] with halted := true }
    t.pc = 0x0100 ∧ t.f = 0x00 ∧ t.cycles = 1 := by decide

/-- X18. -/
theorem test_illegalD3 :
    let t := after (machine [0xD3, 0x00])
    t.pc = 0x0100 ∧ t.faultLatch = some (.illegalInstruction 0x0100 0xD3) ∧ t.f = 0x00 ∧ t.cycles = 0 := by decide

/-- X23. -/
theorem test_dispatch_into_ie :
    let t := after (stored { machine [0x00] with ime := true, sp := 0x0001 } [(0xFFFF, 0x01), (0xFF0F, 0x01)])
    t.sp = 0xFFFF ∧ t.pc = 0x0040 ∧ t.ime = false ∧ t.f = 0x00 ∧ t.readByte 0xFF0F = 0x00
    ∧ t.readByte 0xFFFF = 0x00 ∧ t.cycles = 5 := by decide

/-- X24. -/
theorem test_dispatch_into_if :
    let t := after (stored { machine [0x00] with ime := true, sp := 0xFF10 } [(0xFFFF, 0x01), (0xFF0F, 0x01)])
    t.sp = 0xFF0E ∧ t.pc = 0x0040 ∧ t.ime = false ∧ t.f = 0x00 ∧ t.readByte 0xFF0F = 0x00
    ∧ t.readByte 0xFF0E = 0x00 ∧ t.cycles = 5 := by decide

/-- `CYCLES` is an argument: a machine with another table adds that table's count, and an undefined opcode returns 0
whatever the table says (R8, R340 step 4). -/
theorem test_cycles_are_an_argument :
    let p : CycleTable := { notTaken := List.replicate 256 9, taken := List.replicate 256 11, prefixed := [7] }
    (after { machine [0x00] with cycleTable := p }).cycles = 9
    ∧ (after { machine [0x20, 0x05] with cycleTable := p }).cycles = 11
    ∧ (after { machine [0x20, 0x05] with cycleTable := p, f := 0x80 }).cycles = 9
    ∧ (after { machine [0xCB, 0x00] with cycleTable := p }).cycles = 7
    ∧ (after { machine [0xD3] with cycleTable := p }).cycles = 0 := by decide +kernel

/-! ## Witnesses: states and operands that meet the hypotheses of the obligations -/

/-- A running machine away from reset: code in ROM bank 1, cartridge RAM on, bytes in every array. -/
def busy : State :=
  { stored (machine [0x3E, 0x42]) [(0x8000, 0x11), (0xC000, 0x22), (0xFE00, 0x33), (0xFF10, 0x44), (0xFF80, 0x55),
      (0xFFFF, 0x1F), (0x0000, 0x0A), (0xA000, 0x66)] with
    a := 0x45, f := 0x90, sp := 0xD000, h := 0xC0, l := 0x10 }

theorem busy_inv : busy.Inv :=
  ⟨by decide, by decide, by decide, by decide, ⟨0, rfl⟩, fun _ _ h => by cases h⟩

theorem witness_DecodeOfEncodeIsIdentity : (Instr.callA16 0x1234).wf = true := by decide

theorem witness_EncodeOfDecodeIsIdentity : decode [0xCD, 0x34, 0x12, 0x99] = .ok (.callA16 0x1234, [0x99]) := rfl

theorem witness_UndefinedOpcodesAreEleven : (0xFD : Byte) ∈ undefinedOpcodes ∧ (0xFE : Byte) ∉ undefinedOpcodes := by
  decide

/-- An unsupported type, no type byte at all, and a supported cartridge. -/
theorem witness_LoadBuildsTheMachineOrRefuses :
    (∀ t : Byte, (cartridge 0x04 2).image[0x0147]? = some t → 3 < t.toNat)
    ∧ (∀ t : Byte, ([] : List Byte)[0x0147]? = some t → 3 < t.toNat)
    ∧ (cartridge 0x03 4).image[0x0147]? = some 0x03 ∧ (0x03 : Byte).toNat ≤ 3
    ∧ ∃ k, (cartridge 0x03 4).banks = 2 ^ (k + 1) := by
  refine ⟨fun t h => ?_, fun t h => ?_, by decide +kernel, by decide, ⟨1, rfl⟩⟩
  · have h4 : (cartridge 0x04 2).image[0x0147]? = some 0x04 := by decide +kernel
    rw [h4] at h; cases h; decide
  · cases h

theorem witness_RaiseSetsOneRequestBit : (busy.raise .joypad).Inv
    ∧ ((busy.raise .joypad).readByte 0xFF0F).getLsbD Source.joypad.index = true
    ∧ ((busy.raise .vblank).readByte 0xFF0F).getLsbD Source.vblank.index = true ∧ (0xFF10 : Word) ≠ 0xFF0F :=
  ⟨⟨by decide, by decide, by decide, by decide, ⟨0, rfl⟩, fun _ _ h => by cases h⟩, by decide, by decide, by decide⟩

theorem witness_EnvironmentKeepsTheInvariant :
    busy.Inv ∧ envApply (.write 0xFF00 0x30) busy = .next (busy.writeByte 0xFF00 0x30) := ⟨busy_inv, rfl⟩

/-- Also the witness of the statements about any step that answers a next state. -/
theorem witness_StepKeepsTheInvariant :
    busy.Inv ∧ busy.faultLatch = none ∧ nextState? (step busy) = some (after busy) :=
  ⟨busy_inv, rfl, by decide +kernel⟩

theorem witness_ReachableStatesMeetTheInvariant : Reachable (loaded recommendedCycles (cartridge 0x00 2)) :=
  .load recommendedCycles (cartridge 0x00 2) _ rfl

theorem witness_FlagLowNibbleIsAlwaysZero :
    Reachable (loaded recommendedCycles (cartridge 0x00 2)) ∧ busy.f &&& 0x0F = 0
    ∧ nextState? (step busy) = some (after busy)
    ∧ exec .scf busy = .next (busy.setFlags busy.flagZ false false true) :=
  ⟨.load recommendedCycles (cartridge 0x00 2) _ rfl, by decide, by decide +kernel, rfl⟩

/-- A running state, and a halted one with `IME` 0 that an enabled source wakes. -/
theorem witness_StepRunsTheDecodedInstruction :
    (busy.faultLatch = none ∧ (busy.commitEI.ime = false ∨ busy.pendingSource = none)
      ∧ (busy.halted = false ∨ busy.pendingSource ≠ none)
      ∧ decode [busy.readByte busy.pc, busy.readByte (busy.pc + 1), busy.readByte (busy.pc + 2)]
          = .ok (.ldAD8 0x42, [0xFF]))
    ∧ (let s := { busy.raise .timer with halted := true }
       s.faultLatch = none ∧ s.commitEI.ime = false ∧ s.pendingSource ≠ none
         ∧ decode [s.readByte s.pc, s.readByte (s.pc + 1), s.readByte (s.pc + 2)] = .ok (.ldAD8 0x42, [0xFF])) := by
  refine ⟨⟨rfl, .inl rfl, .inl rfl, rfl⟩, rfl, rfl, by decide, rfl⟩

theorem witness_LatchedFaultFreezesTheMachine :
    (after (machine [0xFD])).faultLatch = some (.illegalInstruction 0x0100 0xFD) := by decide

/-- Both sides: a state that latches the fault, and one that dispatches in its place (X21). -/
theorem witness_FaultOnlyAtAnUndefinedOpcode :
    (let s := machine [0xD3]
     s.faultLatch = none ∧ nextState? (step s) = some (after s) ∧ (after s).faultLatch ≠ none)
    ∧ (let s := { stored (machine [0xD3]) [(0xFFFF, 0x01), (0xFF0F, 0x01)] with ime := true }
       s.faultLatch = none ∧ nextState? (step s) = some (after s) ∧ (after s).faultLatch = none) := by
  decide +kernel

/-- The lowest and the highest source are served. -/
theorem witness_LowestEnabledSourceIsServed :
    (stored (machine []) [(0xFFFF, 0x1F), (0xFF0F, 0x1F)]).pendingSource = some .vblank
    ∧ (stored (machine []) [(0xFFFF, 0x10), (0xFF0F, 0xFF)]).pendingSource = some .joypad
    ∧ (stored (machine []) [(0xFFFF, 0xE0), (0xFF0F, 0xFF)]).pendingSource = none := by decide

/-- `IME` 1, and `IME` set by the commit of an `EI` two steps old while halted. -/
theorem witness_InterruptIsTaken :
    (let s := { busy.raise .serial with ime := true }
     s.faultLatch = none ∧ s.commitEI.ime = true ∧ s.pendingSource = some .serial
       ∧ storeAffects s (s.sp - 1) 0xC000 = false
       ∧ storeAffects (s.writeByte (s.sp - 1) (hiByte s.pc)) (s.sp - 2) 0xC000 = false)
    ∧ (let s := { busy.raise .lcdStat with imePending := true, halted := true }
       s.faultLatch = none ∧ s.commitEI.ime = true ∧ s.pendingSource = some .lcdStat) := by decide

theorem witness_HaltedCoreIdles :
    let s := { busy with halted := true, ime := true }
    s.faultLatch = none ∧ s.halted = true ∧ s.pendingSource = none := by decide

/-- With `IME` 0 and with `IME` 1. -/
theorem witness_EnabledSourceWakesTheCore :
    (let s := { busy.raise .timer with halted := true }
     s.faultLatch = none ∧ s.halted = true ∧ s.pendingSource ≠ none ∧ s.fetched ≠ .halt
       ∧ nextState? (step s) = some (after s))
    ∧ (let s := { busy.raise .timer with halted := true, ime := true }
       s.faultLatch = none ∧ s.halted = true ∧ s.pendingSource ≠ none ∧ s.fetched ≠ .halt) := by
  decide +kernel

theorem witness_EiEnablesAfterOneInstruction :
    let s := machine [0xFB, 0x00]
    s.faultLatch = none ∧ s.ime = false ∧ s.imePending = false ∧ (s.halted = false ∨ s.pendingSource ≠ none)
      ∧ s.fetched = .ei ∧ nextState? (step s) = some (after s)
      ∧ (after s).fetched ≠ .di ∧ (after s).fetched ≠ .reti ∧ nextState? (step (after s)) = some (after (after s)) := by
  decide +kernel

/-- `RETI` sets `IME`, `DI` and a dispatch clear it, `HALT` halts. -/
theorem witness_OnlyListedEventsWriteImeAndHalted :
    (let s := machine [0xD9]
     s.faultLatch = none ∧ s.commitEI.ime = false ∧ (after s).ime = true)
    ∧ (let s := { machine [0xF3] with ime := true }
       s.faultLatch = none ∧ s.commitEI.ime = true ∧ (after s).ime = false ∧ s.pendingSource = none)
    ∧ (let s := { machine [0x76] with imePending := true }
       s.faultLatch = none ∧ s.commitEI.ime = true ∧ s.halted = false ∧ (after s).halted = true) := by decide

/-- Each clause at both ends of its range. -/
theorem witness_ReadDispatchByRegion :
    ([0x0000, 0x3FFF, 0x4000, 0x7FFF, 0x8000, 0x9FFF, 0xA000, 0xBFFF, 0xC000, 0xCFFF, 0xD000, 0xDFFF, 0xE000, 0xFDFF,
      0xFE00, 0xFE9F, 0xFEA0, 0xFEFF, 0xFF00, 0xFF7F, 0xFF80, 0xFFFE, 0xFFFF] : List Word).map regionOf
    = [.rom0, .rom0, .romX, .romX, .vram, .vram, .cartRam, .cartRam, .wram0, .wram0, .wram1, .wram1, .echo, .echo,
      .oam, .oam, .prohibited, .prohibited, .io, .io, .hram, .hram, .ie]
    ∧ busy.ramEnable = true ∧ State.reset.ramEnable = false ∧ busy.romLen ≤ 0x8000 := by decide

/-- The bytes put by `busy`, read where its stores went, and `$FF` where nothing backs the address. -/
theorem test_read_by_region :
    ([0x0100, 0x8000, 0xA000, 0xC000, 0xE000, 0xFE00, 0xFEA0, 0xFF10, 0xFF80, 0xFFFF] : List Word).map busy.readByte
    = [0x3E, 0x11, 0x66, 0x22, 0x22, 0x33, 0xFF, 0x44, 0x55, 0x1F] := by decide

theorem witness_WriteThenReadRoundTrip :
    (0x8000 ≤ (0xA000 : Word).toNat ∧ busy.ramEnable = true ∧ ¬ (0xFEA0 ≤ (0xA000 : Word).toNat))
    ∧ (0x8000 ≤ (0xFFFF : Word).toNat ∧ ¬ ((0xFFFF : Word).toNat ≤ 0xFEFF))
    ∧ (0xFEA0 ≤ (0xFEA0 : Word).toNat ∧ (0xFEFF : Word).toNat ≤ 0xFEFF)
    ∧ (0xA000 ≤ (0xBFFF : Word).toNat ∧ (0xBFFF : Word).toNat ≤ 0xBFFF ∧ State.reset.ramEnable = false)
    ∧ (0x7FFF : Word).toNat ≤ 0x7FFF := by decide

/-- What a store can and cannot reach: a latch moves its windows, an echo cell its twin, `$FF46` all of OAM. -/
theorem witness_StoreLeavesTheRestAlone :
    storeAffects busy 0x0000 0xA000 = true ∧ storeAffects busy 0x0000 0xC000 = false
    ∧ storeAffects busy 0x3FFF 0x7FFF = true ∧ storeAffects busy 0x3FFF 0x3FFF = false
    ∧ storeAffects busy 0x4000 0xA000 = true ∧ storeAffects busy 0x7FFF 0x4000 = false
    ∧ storeAffects busy 0xC000 0xE000 = true ∧ storeAffects busy 0xC000 0xC001 = false
    ∧ storeAffects busy 0xFF46 0xFE9F = true ∧ storeAffects busy 0xFF46 0xFEA0 = false
    ∧ storeAffects busy 0xFEA0 0xFEA0 = false ∧ storeAffects State.reset 0xA000 0xA000 = false := by decide

theorem witness_EchoIsATrueAlias : 0xE000 ≤ (0xE000 : Word).toNat ∧ (0xFDFF : Word).toNat ≤ 0xFDFF
    ∧ (0xFDFF : Word) - 0x2000 = 0xDDFF := by decide

/-- Both ends of each of the four ranges. -/
theorem witness_RomSpaceWritesLoadTheLatches :
    (State.reset.writeByte 0x1FFF 0xFA).ramEnable = true ∧ (State.reset.writeByte 0x2000 0x20).romBankLow5 = 1
    ∧ (State.reset.writeByte 0x3FFF 0xFF).romBankLow5 = 31 ∧ (State.reset.writeByte 0x4000 0xFE).romBankHigh2 = 2
    ∧ (State.reset.writeByte 0x5FFF 0x03).romBankHigh2 = 3 ∧ (State.reset.writeByte 0x6000 0xFF).bankingMode = true
    ∧ ((State.reset.writeByte 0x6000 0x01).writeByte 0x7FFF 0xFE).bankingMode = false := by decide

theorem witness_EffectiveBanks : busy.Inv ∧ busy.bankingMode = false
    ∧ (busy.writeByte 0x6000 0x01).Inv ∧ (busy.writeByte 0x6000 0x01).bankingMode = true
    ∧ 0xA000 ≤ (0xA000 : Word).toNat ∧ (0xBFFF : Word).toNat ≤ 0xBFFF :=
  ⟨busy_inv, by decide, ⟨by decide, by decide, by decide, by decide, ⟨0, rfl⟩, fun _ _ h => by cases h⟩, by decide,
    by decide, by decide⟩

/-- The ends of the copied page and of OAM (M31). -/
theorem witness_OamDmaCopiesThePage :
    let s := stored (machine []) [(0xC100, 0x11), (0xC19F, 0x99), (0xC1A0, 0xAA)]
    (s.writeByte 0xFF46 0xC1).readByte 0xFE00 = 0x11 ∧ (s.writeByte 0xFF46 0xC1).readByte 0xFE9F = 0x99
    ∧ (s.writeByte 0xFF46 0xC1).readByte 0xFF46 = 0xC1
    ∧ (0xFEA0 : Word) ≠ 0xFF46 ∧ ¬ ((0xFEA0 : Word).toNat ≤ 0xFE9F) := by decide +kernel

/-- Also the witness of `LoadsFromMemory`, `LoadsOfAPair` and `IncDecOfAPair`: another register than the one written. -/
theorem witness_LoadsIntoARegister : Reg8.b ≠ Reg8.c ∧ Reg16.bc ≠ Reg16.sp := by decide

/-- A cell that holds what is stored, an address the store cannot reach. -/
theorem witness_StoresOfAByte :
    Holds busy busy.hl ∧ Holds busy 0xFF0F ∧ Holds busy 0xA000 ∧ storeAffects busy busy.hl 0xC011 = false := by
  unfold Holds; decide

theorem witness_StoreOfSp : Holds busy 0xFFFE ∧ Holds busy (0xFFFE + 1)
    ∧ storeAffects busy 0xC000 0xC002 = false
    ∧ storeAffects (busy.writeByte 0xC000 (loByte busy.sp)) (0xC000 + 1) 0xC002 = false := by
  unfold Holds; decide

theorem witness_BitwiseOnA : (7 : Nat) < 8 ∧ (0 : Nat) < 8 := by decide

theorem witness_DecimalAdjustOfA :
    busy.flagN = false ∧ ({ busy with f := 0x70 } : State).flagN = true := by decide

theorem witness_DecimalArithmetic : (45 : Nat) < 100 ∧ (38 : Nat) < 100 ∧ busy.a = bcd 45 := by decide

/-- Each condition true and false; also the witness of `CallsAndRestarts` and `Returns`. -/
theorem witness_Jumps :
    (conditionIs { busy with f := 0x00 } .nz ∧ ¬ conditionIs { busy with f := 0x80 } .nz)
    ∧ (conditionIs { busy with f := 0x80 } .z ∧ ¬ conditionIs { busy with f := 0x70 } .z)
    ∧ (conditionIs { busy with f := 0xE0 } .nc ∧ ¬ conditionIs { busy with f := 0x10 } .nc)
    ∧ (conditionIs { busy with f := 0x10 } .cy ∧ ¬ conditionIs { busy with f := 0xE0 } .cy) := by
  unfold conditionIs; decide

/-- A stack in work RAM; also the witness of `CallsAndRestarts` and `PushAndPop`. -/
theorem witness_StackRoundTrips : Holds busy (busy.sp - 1) ∧ Holds busy (busy.sp - 2)
    ∧ storeAffects busy (busy.sp - 1) 0xD000 = false
    ∧ storeAffects (busy.writeByte (busy.sp - 1) 0x12) (busy.sp - 2) 0xD000 = false := by
  unfold Holds; decide

theorem witness_EnableAndDisableInterrupts :
    busy.imePending = false ∧ ({ busy with imePending := true } : State).imePending = true := by decide

end Sys2Proof.Tests
end

section
/-! PROOFS. The flag byte's low four bits (O13), and the register file with its pairs (O34). -/

namespace Sys2Proof.Machine

/-! The low four bits of `F`. -/

/-- From `s` to `t` the flag byte is as it was, or has its low four bits 0, as every masked write leaves them (R23). -/
def FlagsKeptOrMasked (s t : State) : Prop := t.f = s.f ∨ t.f &&& 0x0F = 0

theorem FlagsKeptOrMasked.flagsLow {s t : State} (h : FlagsKeptOrMasked s t) (hs : s.f &&& 0x0F = 0) :
    t.f &&& 0x0F = 0 :=
  h.elim (fun kept => kept ▸ hs) id

/-- `Plain` says it of all instructions but `HALT`, `EI`, `DI`, `RETI` and the undefined opcodes, and none of those
writes `F`. -/
theorem exec_flagsKeptOrMasked {i : Instr} {s t : State} (h : exec i s = .next t) : FlagsKeptOrMasked s t := by
  rcases exec_cases i s t h with ⟨_, hPlain⟩ | ⟨_, rfl⟩ | ⟨_, rfl⟩ | ⟨_, rfl⟩ | ⟨_, rfl⟩ | ⟨k, _, rfl⟩
  case inl => exact hPlain.flagsWrite
  case inr.inr.inl => split <;> exact .inl rfl
  all_goals exact .inl rfl

@[simp] theorem State.takeInterrupt_f (s : State) (src : Source) : (s.takeInterrupt src).f = s.f := by
  simp [State.takeInterrupt]

/-- Only the step that runs an instruction can write `F`. -/
theorem step_flagsKeptOrMasked {s t : State} (h : step s = .next t) : FlagsKeptOrMasked s t := by
  rcases step_cases s with ⟨_, hs⟩ | ⟨_, src, _, _, hs⟩ | ⟨_, _, _, hs⟩ | ⟨_, _, _, hs⟩ <;> rw [hs] at h
  case inr.inr.inr =>
    obtain ⟨u, hu, rfl⟩ := runInstruction_next _ _ h
    have hFetch : s.commitEI.awake.pastFetch.f = s.f := s.commitEI_f
    simpa [FlagsKeptOrMasked, hFetch] using exec_flagsKeptOrMasked hu
  all_goals
    cases h
    exact .inl (by simp)

theorem reset_flagsLow : State.reset.f &&& 0x0F = 0 := by decide

/-- No action of the environment writes `F`, but reset, which makes it 0. -/
theorem envApply_flagsKeptOrMasked {act : EnvAction} {s t : State} (h : envApply act s = .next t) :
    FlagsKeptOrMasked s t := by
  cases act with
  | raise src => cases h; exact .inl (s.raise_f src)
  | read addr => cases h; exact .inl rfl
  | write addr v =>
    simp only [envApply] at h
    split at h <;> cases h
    exact .inl (s.writeByte_f addr v)
  | reset => cases h; exact .inr reset_flagsLow

theorem loadROM_next {cyc : CycleTable} {c : Cartridge} {t : State} (h : loadROM cyc c = .next t) :
    t = loaded cyc c := by
  unfold loadROM at h
  split_ifs at h
  cases h
  rfl

theorem reachable_flagsLow {s : State} (h : Reachable s) : s.f &&& 0x0F = 0 := by
  induction h with
  | load cyc c t h => rw [loadROM_next h]; exact reset_flagsLow
  | step s t _ h ih => exact (step_flagsKeptOrMasked h).flagsLow ih
  | env act s t _ h ih => exact (envApply_flagsKeptOrMasked h).flagsLow ih

theorem exec_popAf (s : State) :
    ∃ t, exec (.pop .af) s = .next t ∧ t.f &&& 0x0F = 0 :=
  ⟨_, exec_pop .af s, flags_masked _⟩

/-- Settles O13: every write of `F` is masked, so every instruction, step and action of the environment keeps the low
bits 0, and so does a run from any loaded cartridge. -/
theorem flagLowNibbleIsAlwaysZero : Obligations.FlagLowNibbleIsAlwaysZero :=
  ⟨fun _ => reachable_flagsLow,
    fun _ _ hs h => (step_flagsKeptOrMasked h).flagsLow hs,
    fun _ _ _ => exec_flagsKeptOrMasked,
    exec_popAf⟩

/-! The register file, its pairs and the operands. -/

theorem State.reg_reset (r : Reg8) : State.reset.reg r = 0x00 := by
  cases r <;> rfl

theorem State.reg_setReg (s : State) (r q : Reg8) (v : Byte) :
    (s.setReg r v).reg q = if q = r then v else s.reg q := by
  split
  next h => rw [h, State.reg_setReg_same]
  next h => exact s.reg_setReg_other r q v h

/-- A write of a register changes no state but the register file (R20). -/
theorem State.setReg_frame (s : State) (r : Reg8) (v : Byte) :
    s.setReg r v = { s with
      a := (s.setReg r v).a, b := (s.setReg r v).b, c := (s.setReg r v).c, d := (s.setReg r v).d
      e := (s.setReg r v).e, h := (s.setReg r v).h, l := (s.setReg r v).l } := by
  cases r <;> rfl

theorem State.pair_setPair (s : State) (p : Reg16) (v : Word) : (s.setPair p v).pair p = v := by
  cases p with
  | sp => rfl
  | bc | de | hl => exact mkWord_hi_lo v

/-- The mask of `F`, seen in the word `A:F` (R21, R23). -/
theorem mkWord_hi_maskedLo (v : Word) : mkWord (hiByte v) (loByte v &&& 0xF0) = v &&& 0xFFF0 :=
  calc mkWord (hiByte v) (loByte v &&& 0xF0)
      = mkWord (hiByte v &&& 0xFF) (loByte v &&& 0xF0) := by
        rw [show (0xFF : Byte) = BitVec.allOnes 8 from rfl, BitVec.and_allOnes]
    _ = mkWord (hiByte v) (loByte v) &&& mkWord 0xFF 0xF0 := BitVec.and_append.symm
    _ = v &&& 0xFFF0 := by rw [mkWord_hi_lo]; rfl

theorem State.stackPair_setStackPair (s : State) (p : StackPair) (v : Word) :
    (s.setStackPair p v).stackPair p = if p = .af then v &&& 0xFFF0 else v := by
  cases p with
  | af => exact mkWord_hi_maskedLo v
  | bc | de | hl => exact mkWord_hi_lo v

/-- Settles O34: the register file by cases on the register, the pairs from the two halves of a word. -/
theorem registersAndPairs : Obligations.RegistersAndPairs :=
  ⟨State.reg_reset, State.reg_setReg, State.setReg_frame,
    fun _ => ⟨mkWord_toNat _ _, mkWord_toNat _ _, mkWord_toNat _ _, mkWord_toNat _ _⟩,
    State.pair_setPair, State.stackPair_setStackPair, fun _ => ⟨rfl, fun _ => rfl⟩⟩

end Sys2Proof.Machine
end

section
/-! PROOFS. Where each address lives, range by range, and from it the read dispatch (O27), the round trip of a byte
(O28) and the Echo alias (O30). -/

namespace Sys2Proof.Machine

/-! The backing of each range of addresses (R60, R64 to R68). -/

theorem State.locate_rom0Range (s : State) {a : Word} (h : a.toNat ≤ 0x3FFF) : s.locate a = some (.rom a.toNat) := by
  rw [State.locate, (regionOf_rom0 a).2 h]

theorem State.locate_romXRange (s : State) {a : Word} (h : 0x4000 ≤ a.toNat) (h' : a.toNat ≤ 0x7FFF) :
    s.locate a = some (.rom (s.romBank * 0x4000 + (a.toNat - 0x4000))) := by
  rw [State.locate, (regionOf_romX a).2 ⟨h, h'⟩]

theorem State.locate_vramRange (s : State) {a : Word} (h : 0x8000 ≤ a.toNat) (h' : a.toNat ≤ 0x9FFF) :
    s.locate a = some (.vram (a.toNat - 0x8000)) := by
  rw [State.locate, (regionOf_vram a).2 ⟨h, h'⟩]

theorem State.locate_cartRamRange (s : State) {a : Word} (h : 0xA000 ≤ a.toNat) (h' : a.toNat ≤ 0xBFFF) :
    s.locate a = if s.ramEnable then some (.cartRam (s.ramIndex a)) else none := by
  rw [State.locate, (regionOf_cartRam a).2 ⟨h, h'⟩]

/-- Both WRAM regions are one array. -/
theorem State.locate_wramRange (s : State) {a : Word} (h : 0xC000 ≤ a.toNat) (h' : a.toNat ≤ 0xDFFF) :
    s.locate a = some (.wram (a.toNat - 0xC000)) := by
  by_cases hLow : a.toNat ≤ 0xCFFF
  · rw [State.locate, (regionOf_wram0 a).2 ⟨h, hLow⟩]
  · rw [State.locate, (regionOf_wram1 a).2 ⟨by omega, h'⟩]

theorem State.locate_oamRange (s : State) {a : Word} (h : 0xFE00 ≤ a.toNat) (h' : a.toNat ≤ 0xFE9F) :
    s.locate a = some (.oam (a.toNat - 0xFE00)) := by
  rw [State.locate, (regionOf_oam a).2 ⟨h, h'⟩]

theorem State.locate_prohibitedRange (s : State) {a : Word} (h : 0xFEA0 ≤ a.toNat) (h' : a.toNat ≤ 0xFEFF) :
    s.locate a = none := by
  rw [State.locate, (regionOf_prohibited a).2 ⟨h, h'⟩]

theorem State.locate_ioRange (s : State) {a : Word} (h : 0xFF00 ≤ a.toNat) (h' : a.toNat ≤ 0xFF7F) :
    s.locate a = some (.io (a.toNat - 0xFF00)) := by
  rw [State.locate, (regionOf_io a).2 ⟨h, h'⟩]

theorem State.locate_hramRange (s : State) {a : Word} (h : 0xFF80 ≤ a.toNat) (h' : a.toNat ≤ 0xFFFE) :
    s.locate a = some (.hram (a.toNat - 0xFF80)) := by
  rw [State.locate, (regionOf_hram a).2 ⟨h, h'⟩]

/-- The only addresses that nothing backs (R67, R73). -/
theorem State.locate_eq_none_iff (s : State) (a : Word) :
    s.locate a = none ↔ (0xFEA0 ≤ a.toNat ∧ a.toNat ≤ 0xFEFF)
      ∨ (0xA000 ≤ a.toNat ∧ a.toNat ≤ 0xBFFF ∧ s.ramEnable = false) := by
  rw [← and_assoc, ← regionOf_prohibited, ← regionOf_cartRam, State.locate]
  cases regionOf a <;> simp

/-! A read, from where the address lives. -/

theorem State.readByte_of_locate {s : State} {a : Word} {p : Place} (h : s.locate a = some p) :
    s.readByte a = s.readPlace p := by
  rw [State.readByte, h]

theorem State.readByte_unbacked {s : State} {a : Word} (h : s.locate a = none) : s.readByte a = 0xFF := by
  rw [State.readByte, h]

theorem State.readByte_cartRamRange (s : State) {a : Word} (h : 0xA000 ≤ a.toNat) (h' : a.toNat ≤ 0xBFFF) :
    s.readByte a = if s.ramEnable then s.readPlace (.cartRam (s.ramIndex a)) else 0xFF := by
  rw [State.readByte, s.locate_cartRamRange h h']
  cases s.ramEnable <;> rfl

theorem State.readByte_ieAddress (s : State) {a : Word} (h : a.toNat = 0xFFFF) : s.readByte a = s.ie := by
  obtain rfl : a = 0xFFFF := BitVec.eq_of_toNat_eq h
  exact State.readByte_of_locate s.locate_ie

/-- With no image every byte of ROM space reads `$FF` (R65). -/
theorem State.readByte_romSpace_of_romLen_zero {s : State} (hLen : s.romLen = 0) {a : Word} (h : a.toNat ≤ 0x7FFF) :
    s.readByte a = 0xFF := by
  have hRomByte (off : Nat) : s.romByte off = 0xFF := if_neg (by omega)
  by_cases hLow : a.toNat ≤ 0x3FFF
  · rw [State.readByte_of_locate (s.locate_rom0Range hLow)]; exact hRomByte _
  · rw [State.readByte_of_locate (s.locate_romXRange (by omega) h)]; exact hRomByte _

/-! The Echo window: every access is the access `$2000` below (R68, R74). -/

theorem toNat_echoTarget {a : Word} (h : 0xE000 ≤ a.toNat) : (a - 0x2000).toNat = a.toNat - 0x2000 :=
  BitVec.toNat_sub_of_le (BitVec.le_def.2 (Nat.le_trans (by decide) h))

theorem State.locate_echo (s : State) {a : Word} (h : 0xE000 ≤ a.toNat) (h' : a.toNat ≤ 0xFDFF) :
    s.locate a = s.locate (a - 0x2000) := by
  have hTarget := toNat_echoTarget h
  rw [s.locate_wramRange (a := a - 0x2000) (by omega) (by omega), hTarget, State.locate,
    (regionOf_echo a).2 ⟨h, h'⟩]

theorem State.readByte_echo (s : State) {a : Word} (h : 0xE000 ≤ a.toNat) (h' : a.toNat ≤ 0xFDFF) :
    s.readByte a = s.readByte (a - 0x2000) := by
  rw [State.readByte, State.readByte, s.locate_echo h h']

/-- An address below `$FF00` is not the DMA register (R41). -/
theorem ne_dmaAddr_of_lt {a : Word} (h : a.toNat < 0xFF00) : a ≠ dmaAddr := by
  rintro rfl
  exact absurd h (by decide)

theorem State.writeByte_echo (s : State) {a : Word} (v : Byte) (h : 0xE000 ≤ a.toNat) (h' : a.toNat ≤ 0xFDFF) :
    s.writeByte a v = s.writeByte (a - 0x2000) v := by
  have hTarget := toNat_echoTarget h
  rw [s.writeByte_plain a v (by omega) (ne_dmaAddr_of_lt (by omega)),
    s.writeByte_plain (a - 0x2000) v (by omega) (ne_dmaAddr_of_lt (by omega)), s.locate_echo h h']

/-! A store, from whether the address is backed. -/

/-- A store that nothing backs is dropped (R67, R73). -/
theorem State.writeByte_unbacked {s : State} {a : Word} (h : s.locate a = none) (v : Byte) : s.writeByte a v = s := by
  have hRange := (s.locate_eq_none_iff a).1 h
  rw [s.writeByte_plain a v (by omega) (ne_dmaAddr_of_lt (by omega)), h]

theorem State.readByte_writeByte_backed (s : State) (a : Word) (v : Byte) (h : 0x8000 ≤ a.toNat)
    (hRam : 0xA000 ≤ a.toNat → a.toNat ≤ 0xBFFF → s.ramEnable = true)
    (hProhibited : ¬ (0xFEA0 ≤ a.toNat ∧ a.toNat ≤ 0xFEFF)) : (s.writeByte a v).readByte a = v := by
  refine s.readByte_writeByte_same a v h (Option.isSome_iff_ne_none.2 fun hNone => ?_)
  rcases (s.locate_eq_none_iff a).1 hNone with hRange | ⟨hLow, hHigh, hOff⟩
  · exact hProhibited hRange
  · exact Bool.false_ne_true (hOff.symm.trans (hRam hLow hHigh))

/-- In ROM space a store moves a latch and no byte: with no image, `$00` stored still reads `$FF` (R65, R72). -/
theorem readByte_writeByte_romSpace_ne {a : Word} (h : a.toNat ≤ 0x7FFF) :
    (State.reset.writeByte a 0x00).readByte a ≠ 0x00 := by
  have hLen : (State.reset.writeByte a 0x00).romLen = 0 := State.writeByte_romLen _ _ _
  rw [State.readByte_romSpace_of_romLen_zero hLen h]
  decide

/-! The obligations. -/

/-- Settles O27: the backing of each range, read through `State.readByte_of_locate`. -/
theorem readDispatchByRegion : Obligations.ReadDispatchByRegion := fun s _ =>
  ⟨fun h => State.readByte_of_locate (s.locate_rom0Range h),
    fun h h' => State.readByte_of_locate (s.locate_romXRange h h'),
    fun _ => rfl,
    fun h h' => State.readByte_of_locate (s.locate_vramRange h h'),
    s.readByte_cartRamRange,
    fun h h' => State.readByte_of_locate (s.locate_wramRange h h'),
    s.readByte_echo,
    fun h h' => State.readByte_of_locate (s.locate_oamRange h h'),
    fun h h' => State.readByte_unbacked (s.locate_prohibitedRange h h'),
    fun h h' => State.readByte_of_locate (s.locate_ioRange h h'),
    fun h h' => State.readByte_of_locate (s.locate_hramRange h h'),
    s.readByte_ieAddress⟩

/-- Settles O28: outside ROM space a byte is read back exactly where a place backs the address; ROM space keeps none. -/
theorem writeThenReadRoundTrip : Obligations.WriteThenReadRoundTrip := by
  refine ⟨State.readByte_writeByte_backed, fun s addr v hRange => ?_, fun _ h => ?_⟩
  · have hNone := (s.locate_eq_none_iff addr).2 hRange
    exact ⟨State.writeByte_unbacked hNone v, State.readByte_unbacked hNone⟩
  · exact ⟨State.reset, 0x00, readByte_writeByte_romSpace_ne h⟩

/-- Settles O30: both names of the cell are one for reads and for stores, so each reads back what the other stored. -/
theorem echoIsATrueAlias : Obligations.EchoIsATrueAlias := by
  intro s addr v h h'
  have hRoundTrip : (s.writeByte addr v).readByte addr = v :=
    s.readByte_writeByte_backed addr v (by omega) (by omega) (by omega)
  refine ⟨s.readByte_echo h h', s.writeByte_echo v h h', ?_, ?_⟩
  · rw [← State.readByte_echo _ h h', hRoundTrip]
  · rw [← s.writeByte_echo v h h', hRoundTrip]

end Sys2Proof.Machine
end

section
/-! PROOFS. What a store cannot reach reads as before, and from it calls, restarts and returns (O53, O54). -/

namespace Sys2Proof.Machine

/-! What a store can reach, range by range. -/

theorem storeAffects_rom0 (s : State) {a : Word} (h : a.toNat ≤ 0x3FFF) (b : Word) :
    storeAffects s a b = if a.toNat ≤ 0x1FFF then regionOf b == .cartRam else regionOf b == .romX := by
  rw [storeAffects, (regionOf_rom0 a).2 h]

theorem storeAffects_romX (s : State) {a : Word} (h : 0x4000 ≤ a.toNat) (h' : a.toNat ≤ 0x7FFF) (b : Word) :
    storeAffects s a b =
      if a.toNat ≤ 0x5FFF then regionOf b == .romX || regionOf b == .cartRam else regionOf b == .cartRam := by
  rw [storeAffects, (regionOf_romX a).2 ⟨h, h'⟩]

theorem storeAffects_outsideRom (s : State) {a : Word} (h : 0x8000 ≤ a.toNat) (b : Word) :
    storeAffects s a b
      = (((s.locate a).isSome && s.locate b == s.locate a) || (a == dmaAddr && regionOf b == .oam)) := by
  have hRom0 : regionOf a ≠ .rom0 := by rw [Ne, regionOf_rom0]; omega
  have hRomX : regionOf a ≠ .romX := by rw [Ne, regionOf_romX]; omega
  rw [storeAffects]
  split
  case h_1 hRegion => exact absurd hRegion hRom0
  case h_2 hRegion => exact absurd hRegion hRomX
  all_goals rfl

/-! A store into ROM space moves only the windows its latch maps (R72, R75, R76). -/

/-- Only the switched ROM window and the cartridge RAM window move, each with its own bank. -/
theorem State.locate_eq_of_banks {s t : State} {b : Word} (hRom : regionOf b = .romX → t.romBank = s.romBank)
    (hRam : regionOf b = .cartRam → t.ramEnable = s.ramEnable ∧ t.ramBank = s.ramBank) :
    t.locate b = s.locate b := by
  unfold State.locate State.ramIndex
  cases h : regionOf b with
  | romX => rw [hRom h]
  | cartRam => rw [(hRam h).1, (hRam h).2]
  | _ => rfl

theorem State.readPlace_mbc1Write (s : State) (a : Word) (v : Byte) (p : Place) :
    (s.mbc1Write a v).readPlace p = s.readPlace p := by
  unfold State.mbc1Write
  dsimp only
  split_ifs <;> cases p <;> rfl

theorem State.locate_mbc1Write {s : State} {a b : Word} (h : a.toNat ≤ 0x7FFF)
    (hb : storeAffects s a b = false) (v : Byte) : (s.mbc1Write a v).locate b = s.locate b := by
  unfold State.mbc1Write
  dsimp only
  by_cases hEnable : a.toNat ≤ 0x1FFF
  · rw [storeAffects_rom0 s (by omega), if_pos hEnable, beq_eq_false_iff_ne] at hb
    rw [if_pos hEnable]
    exact State.locate_eq_of_banks (fun _ => rfl) (absurd · hb)
  by_cases hLow : a.toNat ≤ 0x3FFF
  · rw [storeAffects_rom0 s hLow, if_neg hEnable, beq_eq_false_iff_ne] at hb
    rw [if_neg hEnable, if_pos hLow]
    exact State.locate_eq_of_banks (absurd · hb) (fun _ => ⟨rfl, rfl⟩)
  rw [storeAffects_romX s (by omega) h] at hb
  by_cases hHigh : a.toNat ≤ 0x5FFF
  · rw [if_pos hHigh, Bool.or_eq_false_iff, beq_eq_false_iff_ne, beq_eq_false_iff_ne] at hb
    rw [if_neg hEnable, if_neg hLow, if_pos hHigh]
    exact State.locate_eq_of_banks (absurd · hb.1) (absurd · hb.2)
  · rw [if_neg hHigh, beq_eq_false_iff_ne] at hb
    rw [if_neg hEnable, if_neg hLow, if_neg hHigh]
    exact State.locate_eq_of_banks (fun _ => rfl) (absurd · hb)

theorem State.readByte_mbc1Write {s : State} {a b : Word} (h : a.toNat ≤ 0x7FFF)
    (hb : storeAffects s a b = false) (v : Byte) : (s.mbc1Write a v).readByte b = s.readByte b := by
  unfold State.readByte
  rw [State.locate_mbc1Write h hb]
  cases s.locate b with
  | none => rfl
  | some p => exact s.readPlace_mbc1Write a v p

/-! The frame of a store (R70, R74, R78). -/

/-- Outside ROM space an address that a store cannot reach names another place than the one stored to, and is outside
OAM where the store copies. -/
theorem unreached_outsideRom {s : State} {a b : Word} {p : Place} (h : 0x8000 ≤ a.toNat) (hp : s.locate a = some p)
    (hb : storeAffects s a b = false) : s.locate b ≠ some p ∧ (a = dmaAddr → regionOf b ≠ .oam) := by
  simpa [storeAffects_outsideRom s h, hp] using hb

theorem State.readsAsBefore_writeByte (s : State) (a : Word) (v : Byte) :
    ReadsAsBefore s (s.writeByte a v) a := by
  intro b hb
  rcases s.writeByte_cases a v with ⟨hRom, e⟩ | ⟨rfl, e⟩ | ⟨_, _, _, e⟩ | ⟨hRange, _, p, hp, hStored, e⟩ <;> rw [e]
  · exact State.readByte_mbc1Write hRom hb v
  · obtain ⟨hCell, hOam⟩ := unreached_outsideRom (by decide) s.locate_dmaAddr hb
    rw [State.readByte_writePlace _ _ _ (by simp), State.locate_oamDma, if_neg hCell,
      s.readByte_oamDma_other v b (hOam rfl)]
  · rw [State.readByte_writePlace s p v hStored, if_neg (unreached_outsideRom hRange hp hb).1]

/-! The stack: what a push leaves alone, and that it is popped back (R12). -/

/-- What neither store of a push can reach reads as before. -/
theorem State.readByte_push16 {s : State} {v b : Word} (hHigh : storeAffects s (s.sp - 1) b = false)
    (hLow : storeAffects (s.writeByte (s.sp - 1) (hiByte v)) (s.sp - 2) b = false) :
    (s.push16 v).readByte b = s.readByte b :=
  calc (s.push16 v).readByte b
      = ((s.writeByte (s.sp - 1) (hiByte v)).writeByte (s.sp - 2) (loByte v)).readByte b := rfl
    _ = (s.writeByte (s.sp - 1) (hiByte v)).readByte b := State.readsAsBefore_writeByte _ _ _ b hLow
    _ = s.readByte b := State.readsAsBefore_writeByte _ _ _ b hHigh

/-- On a stack that holds what is stored, a push is popped back. -/
theorem State.popValue_push16 {s : State} (hHigh : Holds s (s.sp - 1)) (hLow : Holds s (s.sp - 2)) (v : Word) :
    (s.push16 v).popValue = v := by
  have hSucc : s.sp - 2 + 1 = s.sp - 1 := by bv_omega
  have hCells : s.locate (s.sp - 1) ≠ s.locate (s.sp - 2) := by
    rw [← hSucc]
    exact (hLow.locate_succ_ne (hSucc ▸ hHigh)).symm
  obtain ⟨eHigh, eLow⟩ := hHigh.two_stores hLow hCells (hiByte v) (loByte v)
  calc (s.push16 v).popValue
      = mkWord ((s.push16 v).readByte (s.sp - 2 + 1)) ((s.push16 v).readByte (s.sp - 2)) := rfl
    _ = mkWord (hiByte v) (loByte v) := by rw [hSucc]; exact congrArg₂ mkWord eHigh eLow
    _ = v := mkWord_hi_lo v

/-! Calls, restarts and returns. -/

theorem condHolds_iff (s : State) (cc : Cond) : s.condHolds cc = true ↔ conditionIs s cc := by
  cases cc <;> simp [State.condHolds, conditionIs]

theorem callIf_taken {s : State} {cc : Cond} (h : conditionIs s cc) (w : Word) : callIf cc w s = callTo w s :=
  if_pos ((condHolds_iff s cc).2 h)

theorem callIf_notTaken {s : State} {cc : Cond} (h : ¬ conditionIs s cc) (w : Word) : callIf cc w s = .next s :=
  if_neg (mt (condHolds_iff s cc).1 h)

theorem returnIf_taken {s : State} {cc : Cond} (h : conditionIs s cc) : returnIf cc s = returnCall s :=
  if_pos ((condHolds_iff s cc).2 h)

theorem returnIf_notTaken {s : State} {cc : Cond} (h : ¬ conditionIs s cc) : returnIf cc s = .next s :=
  if_neg (mt (condHolds_iff s cc).1 h)

theorem callTo_leaves (s : State) (target : Word) : ∃ t, callTo target s = .next t ∧ CallLeaves s target t :=
  ⟨_, rfl, rfl, fun _ => State.readByte_push16, fun hHigh hLow => State.popValue_push16 hHigh hLow s.pc⟩

/-- `CALL` then `RET` comes back, on a stack that holds what is stored (R256). -/
theorem callTo_then_returnCall {s : State} (hHigh : Holds s (s.sp - 1)) (hLow : Holds s (s.sp - 2)) (target : Word) :
    ∃ t u, callTo target s = .next t ∧ returnCall t = .next u ∧ u.pc = s.pc ∧ u.sp = s.sp :=
  ⟨_, _, rfl, rfl, State.popValue_push16 hHigh hLow s.pc, BitVec.sub_add_cancel s.sp 2⟩

theorem returnCall_leaves (s : State) : ∃ t, returnCall s = .next t ∧ ReturnLeaves s t :=
  ⟨_, rfl, rfl, fun _ => rfl⟩

theorem returnInterrupt_leaves (s : State) :
    ∃ t, returnInterrupt s = .next t ∧ ReturnLeaves { s with ime := true } t :=
  ⟨_, rfl, rfl, fun _ => rfl⟩

/-! The obligations. -/

/-- Settles O53: every form is `callTo` its target or nothing; its frame is that of the two stores of a push, and a
`RET` pops what the call pushed. -/
theorem callsAndRestarts : Obligations.CallsAndRestarts := by
  intro s w
  refine ⟨rfl, fun hHigh hLow => callTo_then_returnCall hHigh hLow w, callTo_leaves s w, fun cc => ⟨?_, ?_⟩, ?_⟩
  · intro hTaken
    rw [exec_callCond, callIf_taken hTaken]
    exact callTo_leaves s w
  · intro hNotTaken
    rw [exec_callCond, callIf_notTaken hNotTaken]
  · intro n
    rw [exec_rst]
    exact callTo_leaves s (rstTarget n)

/-- Settles O54: every form is `returnCall`, `returnInterrupt` or nothing. -/
theorem returns : Obligations.Returns := by
  intro s
  refine ⟨rfl, returnCall_leaves s, fun cc => ⟨?_, ?_⟩, returnInterrupt_leaves s⟩
  · intro hTaken
    rw [exec_retCond, returnIf_taken hTaken]
    exact returnCall_leaves s
  · intro hNotTaken
    rw [exec_retCond, returnIf_notTaken hNotTaken]

end Sys2Proof.Machine
end

section
/-! PROOFS. The decoder and the encoder are inverse to each other (O1 to O5). -/

namespace Sys2Proof

open Sys2Proof.Machine

/-! The two directions (R100, R103). -/

/-- Row by row; a row with a 16-bit immediate puts the word together again from its two bytes (R102). -/
theorem decode_encode (i : Instr) (rest : List Byte) : decode (encode i ++ rest) = .ok (i, rest) := by
  cases i with
  | ldBcD16 w | ldDeD16 w | ldHlD16 w | ldSpD16 w | ldAtA16Sp w | ldAtA16A w | ldAAtA16 w
  | jpA16 w | jpNzA16 w | jpZA16 w | jpNcA16 w | jpCA16 w
  | callA16 w | callNzA16 w | callZA16 w | callNcA16 w | callCA16 w =>
    conv_rhs => rw [← mkWord_hi_lo w]
    rfl
  | _ => rfl

/-- What the decoder reads is the instruction of some three bytes, of which it takes as many as the opcode asks for;
a byte it does not take counts as 0. -/
theorem decode_ok {bytes : List Byte} {i : Instr} {rest : List Byte} (h : decode bytes = .ok (i, rest)) :
    ∃ op b1 b2, i = instrOf op b1 b2 ∧ bytes = [op, b1, b2].take (opLength op) ++ rest := by
  unfold decode at h
  split at h
  · cases h
  · rename_i op tail
    split at h <;> cases h <;> rename_i hLength
    · exact ⟨op, 0, 0, rfl, by rw [hLength]; rfl⟩
    · exact ⟨op, _, 0, rfl, by rw [hLength]; rfl⟩
    · exact ⟨op, _, _, rfl, by rw [hLength]; rfl⟩

theorem encode_of_decode {bytes : List Byte} {i : Instr} {rest : List Byte} (h : decode bytes = .ok (i, rest)) :
    bytes = encode i ++ rest := by
  obtain ⟨op, b1, b2, rfl, hBytes⟩ := decode_ok h
  rw [encode_instrOf, hBytes]

/-! The undefined opcodes (R112). -/

theorem encode_illegal (k : IllegalOp) : encode (.illegal k) = [k.byte] := by
  cases k <;> rfl

theorem mem_undefinedOpcodes_iff (op : Byte) : op ∈ undefinedOpcodes ↔ ∃ k : IllegalOp, op = k.byte := by
  constructor
  · intro h
    simp only [undefinedOpcodes, List.mem_cons, List.not_mem_nil, or_false] at h
    rcases h with rfl | rfl | rfl | rfl | rfl | rfl | rfl | rfl | rfl | rfl | rfl
    exacts [⟨.d3, rfl⟩, ⟨.db, rfl⟩, ⟨.dd, rfl⟩, ⟨.e3, rfl⟩, ⟨.e4, rfl⟩, ⟨.eb, rfl⟩, ⟨.ec, rfl⟩, ⟨.ed, rfl⟩,
      ⟨.f4, rfl⟩, ⟨.fc, rfl⟩, ⟨.fd, rfl⟩]
  · rintro ⟨k, rfl⟩
    cases k <;> decide

theorem decode_illegal_iff (op : Byte) (rest : List Byte) (k : IllegalOp) :
    decode (op :: rest) = .ok (.illegal k, rest) ↔ op = k.byte := by
  constructor
  · intro h
    have hBytes := encode_of_decode h
    rw [encode_illegal] at hBytes
    exact (List.cons.inj hBytes).1
  · rintro rfl
    have hDecode := decode_encode (.illegal k) rest
    rw [encode_illegal] at hDecode
    exact hDecode

/-- An undefined row is the opcode byte alone, so `$CB` with its second byte is none (R103). -/
theorem decode_prefixed_ne_illegal (op2 : Byte) (rest : List Byte) (k : IllegalOp) :
    decode (0xCB :: op2 :: rest) ≠ .ok (.illegal k, rest) := by
  intro h
  have hLength := congrArg List.length (encode_of_decode h)
  simp [encode_illegal] at hLength

/-! The obligations. -/

/-- Settles O1, row by row. -/
theorem decodeOfEncodeIsIdentity : Obligations.DecodeOfEncodeIsIdentity :=
  fun i rest _ => decode_encode i rest

/-- Settles O2: the bytes read are those of the opcode's length, and so is the encoding. -/
theorem encodeOfDecodeIsIdentity : Obligations.EncodeOfDecodeIsIdentity :=
  fun _ _ _ => encode_of_decode

/-- Settles O3: the encoding is as many of the three bytes as the opcode's length. -/
theorem threeBytesAlwaysDecode : Obligations.ThreeBytesAlwaysDecode := by
  intro op b1 b2 more
  have hDecode := decode_three op b1 b2 more
  refine ⟨_, _, hDecode, ?_, ?_, encode_of_decode hDecode⟩
  all_goals
    rw [encode_instrOf]
    rcases opLength_cases op with h | h | h <;> simp [h]

/-- Settles O4, from the one encoding of each undefined row. -/
theorem undefinedOpcodesAreEleven : Obligations.UndefinedOpcodesAreEleven := by
  refine ⟨fun op rest => ?_, decode_prefixed_ne_illegal, rfl⟩
  simp only [decode_illegal_iff, mem_undefinedOpcodes_iff]

/-- Settles O5: each word is the encoding of its instruction. -/
theorem anchorWordsDecode : Obligations.AnchorWordsDecode :=
  ⟨decode_encode .nop [], decode_encode .halt [], decode_encode (.stop 0x00) [], decode_encode (.ldAD8 0x42) [],
    decode_encode (.addAD8 0x80) [], decode_encode .incA [], decode_encode (.jrNzR8 0x05) [],
    decode_encode (.callA16 0x0120) [], decode_encode .ret [], decode_encode .ldAB [], decode_encode .set1E []⟩

end Sys2Proof
end

section
/-! PROOFS. Loading, reset and the environment (O6 to O10). -/

namespace Sys2Proof.Machine

/-! What a cartridge must be (R5, R8, R86). -/

theorem typeOk_iff (c : Cartridge) :
    c.typeOk = true ↔ ∃ t : Byte, c.image[0x0147]? = some t ∧ t.toNat ≤ 3 := by
  have hType (t : Byte) : (t == 0x00 || t == 0x01 || t == 0x02 || t == 0x03) = true ↔ t.toNat ≤ 3 := by
    revert t; decide +kernel
  unfold Cartridge.typeOk
  cases c.image[0x0147]? with
  | none => simp
  | some t => exact (hType t).trans (by simp)

theorem banksOk_iff (c : Cartridge) : c.banksOk = true ↔ ∃ k, c.banks = 2 ^ (k + 1) := by
  rw [Cartridge.banksOk, Bool.and_eq_true, decide_eq_true_eq, beq_iff_eq]
  constructor
  · rintro ⟨hTwo, hAnd⟩
    obtain ⟨k, hk⟩ := power_of_and_pred c.banks (by omega) hAnd
    cases k with
    | zero => omega
    | succ k => exact ⟨k, hk⟩
  · rintro ⟨k, hk⟩
    rw [hk, Nat.and_two_pow_sub_one_eq_mod, Nat.mod_self]
    exact ⟨Nat.le_self_pow (Nat.succ_ne_zero k) 2, rfl⟩

/-! The machine a cartridge builds. -/

/-- `ROM[off]` within the image, `$FF` beyond it (R65). -/
theorem romByte_loaded (cyc : CycleTable) (c : Cartridge) (off : Nat) :
    (loaded cyc c).romByte off = (c.image[off]?).getD 0xFF := by
  have hRead := Memory.read_ofBytes (unlisted (.rom 0)) 0 c.image off
  rw [Nat.zero_add] at hRead
  by_cases hOff : off < c.image.length
  · exact (if_pos hOff).trans hRead
  · rw [List.getElem?_eq_none (by omega)]
    exact if_neg hOff

theorem reset_inv : State.reset.Inv where
  arrays := by decide
  flagsLow := by decide
  bankLow := by decide
  eiLatch _ := rfl
  banks := ⟨0, rfl⟩
  latch _ _ h := nomatch h

/-- The reset machine with a canonical image and a bank count it may have. -/
theorem inv_of_reset {s : State} (hReset : s = { State.reset with
      rom := s.rom, romLen := s.romLen, romBanks := s.romBanks, cycleTable := s.cycleTable })
    (hRom : Memory.wf Config.romUnlisted s.romLen s.rom = true) (hBanks : ∃ k, s.romBanks = 2 ^ (k + 1)) :
    s.Inv := by
  rw [hReset]
  exact ⟨(arraysWf_iff _).2 ⟨rfl, rfl, rfl, rfl, rfl, rfl, hRom⟩, reset_inv.flagsLow, reset_inv.bankLow,
    reset_inv.eiLatch, hBanks, reset_inv.latch⟩

theorem loaded_inv (cyc : CycleTable) {c : Cartridge} (hBanks : c.banksOk = true) : (loaded cyc c).Inv :=
  inv_of_reset rfl (Memory.wfFrom_ofBytes _ _ 0 c.image (by rw [Nat.zero_add]; exact le_refl _))
    ((banksOk_iff c).1 hBanks)

theorem loadROM_inv {cyc : CycleTable} {c : Cartridge} {t : State} (h : loadROM cyc c = .next t) : t.Inv := by
  obtain rfl := loadROM_next h
  unfold loadROM at h
  split_ifs at h with _ hBanks
  exact loaded_inv cyc (by simpa using hBanks)

theorem State.Inv.resetMachine {s : State} (h : s.Inv) : s.resetMachine.Inv :=
  inv_of_reset rfl ((arraysWf_iff s).1 h.arrays).2.2.2.2.2.2 h.banks

/-! The request register (R39, R346). -/

theorem State.ifReg_eq_readByte (s : State) : s.ifReg = s.readByte 0xFF0F :=
  (State.readByte_of_locate s.locate_if).symm

/-- A request already pending is kept as it is. -/
theorem or_mask_of_getLsbD {v : Byte} {src : Source} (h : v.getLsbD src.index = true) : v ||| src.mask = v := by
  revert v
  cases src <;> decide +kernel

/-- Storing in `IF` what it holds changes nothing, in a canonical array. -/
theorem State.setIfReg_ifReg {s : State} (h : s.Inv) : s.setIfReg s.ifReg = s := by
  obtain ⟨_, _, _, _, hIo, _, _⟩ := (arraysWf_iff s).1 h.arrays
  have hWrite : Memory.write (unlisted (.io 0x0F)) s.io 0x0F s.ifReg = s.io :=
    Memory.write_read Config.ramUnlisted 0x80 s.io 0x0F hIo (by decide)
  show { s with io := Memory.write (unlisted (.io 0x0F)) s.io 0x0F s.ifReg } = s
  rw [hWrite]

theorem State.Inv.raise {s : State} (h : s.Inv) (src : Source) : (s.raise src).Inv :=
  State.Inv.writePlace s (.io 0x0F) _ (show 0x0F < 0x80 by decide) h

/-! The obligations. -/

/-- Settles O6: `State.reset` holds every value of the table, and the parameters are those given. -/
theorem resetPutsEveryPieceAtItsValue : Obligations.ResetPutsEveryPieceAtItsValue := fun _ =>
  ⟨_, rfl, State.reg_reset, rfl, rfl, rfl, rfl, rfl, rfl, rfl, rfl, rfl, fun _ => rfl, fun _ => rfl, fun _ => rfl,
    fun _ => rfl, fun _ => rfl, fun _ => rfl, rfl, rfl, rfl, rfl, rfl, rfl, rfl, rfl, rfl⟩

/-- Settles O7: every array is empty, and no latch is set. -/
theorem resetMeetsTheInvariant : Obligations.ResetMeetsTheInvariant := reset_inv

/-- Settles O8: the two checks of `loadROM` say what the document asks of a cartridge. -/
theorem loadBuildsTheMachineOrRefuses : Obligations.LoadBuildsTheMachineOrRefuses := by
  intro cyc c
  constructor
  · intro hUnsupported
    have hType : c.typeOk = false := by
      rw [Bool.eq_false_iff, Ne, typeOk_iff]
      rintro ⟨t, hImage, hLe⟩
      exact absurd (hUnsupported t hImage) (by omega)
    simp [loadROM, hType]
  · intro t hImage hLe hBanks
    have hType : c.typeOk = true := (typeOk_iff c).2 ⟨t, hImage, hLe⟩
    have hBanksOk : c.banksOk = true := (banksOk_iff c).2 hBanks
    exact ⟨loaded cyc c, by simp [loadROM, hType, hBanksOk], rfl, romByte_loaded cyc c⟩

/-- Settles O9: `Raise` is one store in the cell `IF`. -/
theorem raiseSetsOneRequestBit : Obligations.RaiseSetsOneRequestBit := by
  intro s src
  refine ⟨s.raise src, rfl, ?_, rfl, fun b hb => ?_, fun hInv hBit => ?_⟩
  · rw [State.raise, State.readByte_setIfReg, if_pos rfl, State.ifReg_eq_readByte]
    rfl
  · rw [State.raise, State.readByte_setIfReg, if_neg hb]
  · rw [← State.ifReg_eq_readByte] at hBit
    rw [State.raise, or_mask_of_getLsbD hBit, State.setIfReg_ifReg hInv]

/-- Settles O10, action by action. -/
theorem environmentKeepsTheInvariant : Obligations.EnvironmentKeepsTheInvariant := by
  intro act s t hInv h
  cases act with
  | raise src => cases h; exact hInv.raise src
  | read addr => cases h; exact hInv
  | write addr v =>
    simp only [envApply] at h
    split at h <;> cases h
    exact State.Inv.writeByte s addr v hInv
  | reset => cases h; exact hInv.resetMachine

end Sys2Proof.Machine
end

section
/-! PROOFS. The step as a whole: the invariant along every run, totality, the parameters, the cycle count, and the
instruction a step runs (O11, O12, O14 to O18). -/

namespace Sys2Proof.Machine

/-! The four things a step can do, each from the premises that select it (R340). -/

theorem step_latched {s : State} {why : Fault} (hFault : s.faultLatch = some why) : step s = .next s := by
  rcases step_cases s with ⟨_, hs⟩ | ⟨hNone, _⟩ | ⟨hNone, _⟩ | ⟨hNone, _⟩
  · exact hs
  all_goals exact absurd (hNone.symm.trans hFault) nofun

theorem step_dispatch {s : State} {src : Source} (hFault : s.faultLatch = none) (hIme : s.commitEI.ime = true)
    (hPending : s.pendingSource = some src) :
    step s = .next ((s.commitEI.awake.takeInterrupt src).addCycles 5) := by
  rcases step_cases s with ⟨hSome, _⟩ | ⟨_, other, hOther, _, hs⟩ | ⟨_, _, hNone, _⟩ | ⟨_, hOff | hNone, _⟩
  · exact absurd hFault hSome
  · obtain rfl : src = other := Option.some.inj (hPending.symm.trans hOther)
    exact hs
  · exact absurd (hNone.symm.trans hPending) nofun
  · exact absurd (hOff.symm.trans hIme) nofun
  · exact absurd (hNone.symm.trans hPending) nofun

theorem step_idle {s : State} (hFault : s.faultLatch = none) (hHalted : s.halted = true)
    (hPending : s.pendingSource = none) : step s = .next (s.commitEI.addCycles 1) := by
  rcases step_cases s with ⟨hSome, _⟩ | ⟨_, _, hOther, _⟩ | ⟨_, _, _, hs⟩ | ⟨_, _, hAwake | hSome, _⟩
  · exact absurd hFault hSome
  · exact absurd (hPending.symm.trans hOther) nofun
  · exact hs
  · exact absurd (hAwake.symm.trans hHalted) nofun
  · exact absurd hPending hSome

theorem step_run {s : State} (hFault : s.faultLatch = none)
    (hNoDispatch : s.commitEI.ime = false ∨ s.pendingSource = none)
    (hAwake : s.halted = false ∨ s.pendingSource ≠ none) : step s = s.commitEI.awake.runInstruction := by
  rcases step_cases s with ⟨hSome, _⟩ | ⟨_, _, hOther, hIme, _⟩ | ⟨_, hHalted, hNone, _⟩ | ⟨_, _, _, hs⟩
  · exact absurd hFault hSome
  · simp [hOther, hIme] at hNoDispatch
  · simp [hHalted, hNone] at hAwake
  · exact hs

/-! What the step returns in each (R340, R390). -/

theorem stepReturns_latched {s : State} (hFault : s.faultLatch ≠ none) : stepReturns s = 0 := by
  obtain ⟨why, hWhy⟩ := Option.ne_none_iff_exists'.1 hFault
  rw [stepReturns, hWhy]

theorem stepReturns_dispatch {s : State} {src : Source} (hFault : s.faultLatch = none)
    (hIme : s.commitEI.ime = true) (hPending : s.pendingSource = some src) : stepReturns s = 5 := by
  simp [stepReturns, hFault, State.pendingSource_commitEI, hPending, hIme, dispatchCycles]

theorem stepReturns_idle {s : State} (hFault : s.faultLatch = none) (hHalted : s.halted = true)
    (hPending : s.pendingSource = none) : stepReturns s = 1 := by
  simp [stepReturns, hFault, State.wake_commitEI, State.pendingSource_commitEI, hPending, hHalted, idleCycles]

theorem stepReturns_run {s : State} (hFault : s.faultLatch = none)
    (hNoDispatch : s.commitEI.ime = false ∨ s.pendingSource = none)
    (hAwake : s.halted = false ∨ s.pendingSource ≠ none) : stepReturns s = s.fetchedCycles := by
  cases hPending : s.pendingSource with
  | some src =>
    have hIme : s.commitEI.ime = false := by simpa [hPending] using hNoDispatch
    simp [stepReturns, hFault, State.wake_commitEI, State.pendingSource_commitEI, hPending, hIme,
      State.fetchedCycles_awake_commitEI]
  | none =>
    have hHalted : s.halted = false := by simpa [hPending] using hAwake
    rw [← State.fetchedCycles_awake_commitEI, State.awake_of_not_halted s.commitEI (by simp [hHalted])]
    simp [stepReturns, hFault, State.wake_commitEI, State.pendingSource_commitEI, hPending, hHalted]

/-! Fetch and execution. -/

/-- The state a fetched instruction runs on: committed, awake, `PC` past the instruction (R25). -/
def State.readyToRun (s : State) : State :=
  { s.commitEI with halted := false, pc := s.pc + BitVec.ofNat 16 (opLength s.opcode) }

theorem State.runInstruction_awake_commitEI (s : State) :
    s.commitEI.awake.runInstruction = addCyclesTo s.fetchedCycles (exec s.fetched s.readyToRun) := by
  rw [State.runInstruction, State.fetchedCycles_awake_commitEI, State.fetched_awake_commitEI,
    State.pastFetch_awake_commitEI]
  rfl

/-- What a step that runs an instruction answers is what the instruction answers, with its cycles added. -/
theorem run_next {s t : State} (h : s.commitEI.awake.runInstruction = .next t) :
    ∃ u, exec s.fetched s.readyToRun = .next u ∧ t = u.addCycles s.fetchedCycles := by
  obtain ⟨u, hExec, hCycles⟩ := runInstruction_next _ _ h
  rw [State.fetched_awake_commitEI, State.pastFetch_awake_commitEI] at hExec
  rw [State.fetchedCycles_awake_commitEI] at hCycles
  exact ⟨u, hExec, hCycles⟩

theorem runInstruction_isNext (s : State) : ∃ t, s.runInstruction = .next t := by
  obtain ⟨t, ht⟩ := exec_next s.fetched s.pastFetch
  exact ⟨t.addCycles s.fetchedCycles, by rw [State.runInstruction, ht, addCyclesTo]⟩

/-- The instruction at `PC` is as long as its opcode says (R100). -/
theorem length_encode_fetched (s : State) : (encode s.fetched).length = opLength s.opcode := by
  rw [State.fetched, encode_instrOf]
  rcases opLength_cases s.opcode with h | h | h <;> rw [h] <;> rfl

theorem decode_at_pc (s : State) :
    ∃ rest, decode [s.readByte s.pc, s.readByte (s.pc + 1), s.readByte (s.pc + 2)] = .ok (s.fetched, rest) :=
  ⟨_, decode_three _ _ _ []⟩

/-! What a step keeps. -/

theorem State.Inv.readyToRun {s : State} (hFault : s.faultLatch = none) (h : s.Inv) : s.readyToRun.Inv :=
  have hCommit := State.Inv.commitEI s h
  have hNone : s.commitEI.faultLatch = none := s.commitEI_faultLatch.trans hFault
  ⟨hCommit.arrays, hCommit.flagsLow, hCommit.bankLow, hCommit.eiLatch, hCommit.banks,
    fun _ _ hSome => absurd (hNone.symm.trans hSome) nofun⟩

theorem step_inv {s t : State} (hInv : s.Inv) (h : step s = .next t) : t.Inv := by
  have hCommit := State.Inv.commitEI s hInv
  rcases step_cases s with ⟨_, hs⟩ | ⟨hFault, src, _, _, hs⟩ | ⟨_, _, _, hs⟩ | ⟨hFault, _, _, hs⟩ <;> rw [hs] at h
  · cases h
    exact hInv
  · cases h
    refine State.Inv.addCycles _ 5 (State.Inv.takeInterrupt _ src ?_ (State.Inv.awake _ hCommit))
    exact s.commitEI_faultLatch.trans hFault
  · cases h
    exact State.Inv.addCycles _ 1 hCommit
  · obtain ⟨u, hExec, rfl⟩ := run_next h
    refine State.Inv.addCycles u _ (exec_inv _ _ u ?_ (hInv.readyToRun hFault) hExec)
    exact s.commitEI_faultLatch.trans hFault

theorem reachable_inv {s : State} (h : Reachable s) : s.Inv := by
  induction h with
  | load cyc c t h => exact loadROM_inv h
  | step s t _ h ih => exact step_inv ih h
  | env act s t _ h ih => exact environmentKeepsTheInvariant act s t ih h

/-- From `s` to `t` no parameter changed (R8). -/
structure SameParameters (s t : State) : Prop where
  rom : t.rom = s.rom
  romLen : t.romLen = s.romLen
  romBanks : t.romBanks = s.romBanks
  cycleTable : t.cycleTable = s.cycleTable

theorem sameParameters_takeInterrupt (s : State) (src : Source) : SameParameters s (s.takeInterrupt src) := by
  constructor <;> simp [State.takeInterrupt]

theorem State.takeInterrupt_cycles (s : State) (src : Source) : (s.takeInterrupt src).cycles = s.cycles := by
  simp [State.takeInterrupt]

theorem step_sameParameters {s t : State} (h : step s = .next t) : SameParameters s t := by
  have hCommit : SameParameters s s.commitEI := ⟨by simp, by simp, by simp, by simp⟩
  rcases step_cases s with ⟨_, hs⟩ | ⟨_, src, _, _, hs⟩ | ⟨_, _, _, hs⟩ | ⟨_, _, _, hs⟩ <;> rw [hs] at h
  · cases h
    exact ⟨rfl, rfl, rfl, rfl⟩
  · cases h
    have hTaken := sameParameters_takeInterrupt s.commitEI.awake src
    exact ⟨hTaken.rom.trans hCommit.rom, hTaken.romLen.trans hCommit.romLen,
      hTaken.romBanks.trans hCommit.romBanks, hTaken.cycleTable.trans hCommit.cycleTable⟩
  · cases h
    exact ⟨hCommit.rom, hCommit.romLen, hCommit.romBanks, hCommit.cycleTable⟩
  · obtain ⟨u, hExec, rfl⟩ := run_next h
    obtain ⟨hRom, hRomLen, hRomBanks, hCycleTable, _⟩ := exec_keeps_parameters _ _ _ hExec
    exact ⟨hRom.trans hCommit.rom, hRomLen.trans hCommit.romLen,
      hRomBanks.trans hCommit.romBanks, hCycleTable.trans hCommit.cycleTable⟩

theorem step_cycles {s t : State} (h : step s = .next t) :
    t.cycles = s.cycles + BitVec.ofNat 64 (stepReturns s) := by
  rcases step_cases s with ⟨hFault, hs⟩ | ⟨hFault, src, hPending, hIme, hs⟩ | ⟨hFault, hHalted, hPending, hs⟩
    | ⟨hFault, hNoDispatch, hAwake, hs⟩ <;> rw [hs] at h
  · cases h
    rw [stepReturns_latched hFault]
    exact (BitVec.add_zero s.cycles).symm
  · cases h
    rw [stepReturns_dispatch hFault hIme hPending, State.addCycles_cycles, State.takeInterrupt_cycles,
      State.awake_cycles, State.commitEI_cycles]
  · cases h
    rw [stepReturns_idle hFault hHalted hPending, State.addCycles_cycles, State.commitEI_cycles]
  · obtain ⟨u, hExec, rfl⟩ := run_next h
    obtain ⟨_, _, _, _, hCycles⟩ := exec_keeps_parameters _ _ _ hExec
    rw [stepReturns_run hFault hNoDispatch hAwake, State.addCycles_cycles, hCycles]
    exact congrArg (· + _) s.commitEI_cycles

/-! The obligations. -/

/-- Settles O11: the commit, the wake, a dispatch, the count of cycles and every instruction keep the invariant. -/
theorem stepKeepsTheInvariant : Obligations.StepKeepsTheInvariant := fun _ _ => step_inv

/-- Settles O12, by induction on the history: O10 and O11 are its steps. -/
theorem reachableStatesMeetTheInvariant : Obligations.ReachableStatesMeetTheInvariant := fun _ => reachable_inv

/-- Settles O14: each of the four things a step can do answers a next state. -/
theorem everyStepAnswersNext : Obligations.EveryStepAnswersNext := by
  intro s
  rcases step_cases s with ⟨_, hs⟩ | ⟨_, _, _, _, hs⟩ | ⟨_, _, _, hs⟩ | ⟨_, _, _, hs⟩
  · exact ⟨_, hs⟩
  · exact ⟨_, hs⟩
  · exact ⟨_, hs⟩
  · rw [hs]
    exact runInstruction_isNext _

/-- Settles O15: no instruction, dispatch, commit or wake writes a parameter. -/
theorem stepNeverWritesTheCartridge : Obligations.StepNeverWritesTheCartridge := by
  intro s t h
  obtain ⟨hRom, hRomLen, hRomBanks, hCycleTable⟩ := step_sameParameters h
  exact ⟨hRom, hRomLen, hRomBanks, hCycleTable⟩

/-- Settles O16: no instruction and no dispatch writes `cycles`, and each of the four adds what it returns. -/
theorem stepAddsTheCyclesItReturns : Obligations.StepAddsTheCyclesItReturns := fun _ _ => step_cycles

/-- Settles O17: the decoder on the three bytes is `fetched`, and the encoding's length is the opcode's. -/
theorem stepRunsTheDecodedInstruction : Obligations.StepRunsTheDecodedInstruction := by
  intro s i rest hFault hNoDispatch hAwake hDecode
  obtain ⟨_, hFetched⟩ := decode_at_pc s
  rw [hFetched] at hDecode
  cases hDecode
  rw [step_run hFault hNoDispatch hAwake, State.runInstruction_awake_commitEI, length_encode_fetched]
  rfl

/-- Settles O18: the first of the four things a step can do. -/
theorem latchedFaultFreezesTheMachine : Obligations.LatchedFaultFreezesTheMachine := by
  intro s why hFault
  exact ⟨step_latched hFault, stepReturns_latched (by simp [hFault])⟩

end Sys2Proof.Machine
end

section
/-! PROOFS. Faults, interrupts and the run states (O19 to O26). -/

namespace Sys2Proof.Machine

/-! What an instruction does to each latch: one event besides keeping it (R27, R28, R30, R33). -/

theorem exec_ime {i : Instr} {s t : State} (h : exec i s = .next t) :
    t.ime = s.ime ∨ (i = .di ∧ t.ime = false) ∨ (i = .reti ∧ t.ime = true) := by
  rcases exec_cases i s t h with ⟨_, hPlain⟩ | ⟨_, rfl⟩ | ⟨_, rfl⟩ | ⟨hi, rfl⟩ | ⟨hi, rfl⟩ | ⟨k, _, rfl⟩
  · exact .inl hPlain.ime
  · exact .inl rfl
  · split <;> exact .inl rfl
  · exact .inr (.inl ⟨hi, rfl⟩)
  · exact .inr (.inr ⟨hi, rfl⟩)
  · exact .inl rfl

theorem exec_halted {i : Instr} {s t : State} (h : exec i s = .next t) : t.halted = s.halted ∨ i = .halt := by
  rcases exec_cases i s t h with ⟨_, hPlain⟩ | ⟨hi, rfl⟩ | ⟨_, rfl⟩ | ⟨_, rfl⟩ | ⟨_, rfl⟩ | ⟨k, _, rfl⟩
  · exact .inl hPlain.halted
  · exact .inr hi
  · split <;> exact .inl rfl
  all_goals exact .inl rfl

/-- Only `DI` cancels a scheduled enable; a second `EI` leaves it as it is (D2, D3). -/
theorem exec_keeps_eiLatch {i : Instr} {s t : State} (h : exec i s = .next t) (hPending : s.imePending = true)
    (hDi : i ≠ .di) : t.imePending = true ∧ t.eiJust = s.eiJust := by
  rcases exec_cases i s t h with ⟨_, hPlain⟩ | ⟨_, rfl⟩ | ⟨_, rfl⟩ | ⟨hi, _⟩ | ⟨_, rfl⟩ | ⟨k, _, rfl⟩
  · exact ⟨hPlain.imePending.trans hPending, hPlain.eiJust⟩
  · exact ⟨hPending, rfl⟩
  · rw [if_pos hPending]
    exact ⟨hPending, rfl⟩
  · exact absurd hi hDi
  · exact ⟨hPending, rfl⟩
  · exact ⟨hPending, rfl⟩

/-- Only an undefined opcode latches a fault. -/
theorem exec_faultLatch {i : Instr} {s t : State} (h : exec i s = .next t) :
    t.faultLatch = s.faultLatch ∨ ∃ k : IllegalOp, i = .illegal k ∧ t = s.raiseIllegal k.byte := by
  rcases exec_cases i s t h with ⟨_, hPlain⟩ | ⟨_, rfl⟩ | ⟨_, rfl⟩ | ⟨_, rfl⟩ | ⟨_, rfl⟩ | hIllegal
  · exact .inl hPlain.faultLatch
  · exact .inl rfl
  · split <;> exact .inl rfl
  · exact .inl rfl
  · exact .inl rfl
  · exact .inr hIllegal

/-! The undefined opcodes (R350, R352). -/

theorem raiseIllegal_sameBytes (s : State) (op : Byte) : SameBytes s (s.raiseIllegal op) := fun _ => rfl

theorem opLength_illegal (k : IllegalOp) : opLength k.byte = 1 := by
  cases k <;> rfl

/-- An undefined row is fetched exactly from its own byte (R112). -/
theorem fetched_illegal_iff (s : State) (k : IllegalOp) : s.fetched = .illegal k ↔ s.opcode = k.byte := by
  have hDecode (op b1 b2 : Byte) : decode [op, b1, b2] = _ := decode_three op b1 b2 []
  constructor
  · intro h
    have hBytes := encode_instrOf s.opcode s.opcode2 (s.readByte (s.pc + 2))
    rw [show instrOf s.opcode s.opcode2 (s.readByte (s.pc + 2)) = .illegal k from h, encode_illegal] at hBytes
    rcases opLength_cases s.opcode with hLength | hLength | hLength <;> rw [hLength] at hBytes
    · exact (List.cons.inj hBytes).1.symm
    · exact absurd (congrArg List.length hBytes) (by simp)
    · exact absurd (congrArg List.length hBytes) (by simp)
  · intro h
    rw [State.fetched, h]
    cases k <;> rfl

/-- The step that fetches an undefined opcode: `PC` ends where it was and nothing is added to `cycles`. -/
theorem run_illegal {s u : State} {k : IllegalOp} (hFetched : s.fetched = .illegal k)
    (hu : u = s.readyToRun.raiseIllegal k.byte) :
    u.addCycles s.fetchedCycles = { s.commitEI with
      halted := false, faultLatch := some (.illegalInstruction s.pc (s.readByte s.pc)) } := by
  have hOpcode : s.opcode = k.byte := (fetched_illegal_iff s k).1 hFetched
  have hByte : s.readByte s.pc = k.byte := hOpcode
  have hCycles : s.fetchedCycles = 0 := by
    rw [State.fetchedCycles, State.instrCycles, if_pos ((mem_undefinedOpcodes_iff _).2 ⟨k, hOpcode⟩)]
  have hPc : s.readyToRun.pc - 1 = s.pc := by
    show s.pc + BitVec.ofNat 16 (opLength s.opcode) - 1 = s.pc
    rw [hOpcode, opLength_illegal]
    exact BitVec.add_sub_cancel s.pc 1
  calc u.addCycles s.fetchedCycles
      = s.readyToRun.raiseIllegal k.byte := by rw [hu, hCycles, State.addCycles, BitVec.add_zero]
    _ = { s.readyToRun with
          pc := s.readyToRun.pc - 1
          faultLatch := some (.illegalInstruction (s.readyToRun.pc - 1) k.byte) } := rfl
    _ = { s.commitEI with
          halted := false, faultLatch := some (.illegalInstruction s.pc (s.readByte s.pc)) } := by
        rw [hPc, hByte]
        simp [State.readyToRun]

/-! The source served (R342, R347). -/

theorem State.ie_eq_readByte (s : State) : s.ie = s.readByte 0xFFFF :=
  (s.readByte_ieAddress rfl).symm

theorem Source.forall_iff {P : Source → Prop} :
    (∀ src, P src) ↔ P .vblank ∧ P .lcdStat ∧ P .timer ∧ P .serial ∧ P .joypad := by
  constructor
  · exact fun h => ⟨h _, h _, h _, h _, h _⟩
  · rintro ⟨hVblank, hLcdStat, hTimer, hSerial, hJoypad⟩ src
    cases src <;> assumption

theorem lowestSource_eq_some_iff (bits : Byte) (src : Source) :
    lowestSource bits = some src ↔ bits.getLsbD src.index = true
      ∧ ∀ other : Source, other.index < src.index → bits.getLsbD other.index = false := by
  rw [Source.forall_iff, lowestSource]
  cases src <;> simp only [Source.index] <;> split_ifs <;> simp_all

/-- The mask `$1F` keeps the bits of the five sources. -/
theorem getLsbD_mask_source (v : Byte) (src : Source) :
    (v &&& 0x1F).getLsbD src.index = v.getLsbD src.index := by
  revert v
  cases src <;> decide +kernel

theorem lowestSource_eq_none_iff (v : Byte) : lowestSource (v &&& 0x1F) = none ↔ v &&& 0x1F = 0 := by
  revert v
  decide +kernel

theorem State.pendingSource_eq (s : State) :
    s.pendingSource = lowestSource (s.readByte 0xFF0F &&& s.readByte 0xFFFF &&& 0x1F) := by
  rw [State.pendingSource, State.pendingBits, State.ifReg_eq_readByte, State.ie_eq_readByte]

/-! Taking an interrupt (R344, R345). -/

/-- `IME` and the `EI` latch at 0, as a dispatch leaves them (R344, D4). -/
def State.interruptsOff (s : State) : State := { s with ime := false, imePending := false, eiJust := false }

theorem State.takeInterrupt_eq (s : State) (src : Source) :
    s.takeInterrupt src = { (s.interruptsOff.push16 s.pc).clearRequest src with pc := src.vector } := rfl

@[simp] theorem State.takeInterrupt_ime (s : State) (src : Source) : (s.takeInterrupt src).ime = false := by
  simp [State.takeInterrupt]

@[simp] theorem State.takeInterrupt_halted (s : State) (src : Source) :
    (s.takeInterrupt src).halted = s.halted := by
  simp [State.takeInterrupt]

@[simp] theorem State.takeInterrupt_faultLatch (s : State) (src : Source) :
    (s.takeInterrupt src).faultLatch = s.faultLatch := by
  simp [State.takeInterrupt]

theorem Source.vector_eq (src : Source) : src.vector = BitVec.ofNat 16 (0x40 + 8 * src.index) := by
  cases src <;> rfl

/-- The request is cleared in the `IF` that the push leaves (D17); every other address reads as the push leaves it. -/
theorem State.readByte_takeInterrupt (s : State) (src : Source) (b : Word) :
    (s.takeInterrupt src).readByte b = if b = 0xFF0F
      then (s.interruptsOff.push16 s.pc).readByte 0xFF0F &&& ~~~src.mask
      else (s.interruptsOff.push16 s.pc).readByte b := by
  rw [← State.ifReg_eq_readByte]
  exact State.readByte_setIfReg (s.interruptsOff.push16 s.pc) _ b

/-- What a dispatch pushes through the MMU from a state, the latches it clears aside. -/
theorem sameMemory_dispatchPush (s : State) :
    SameMemory ((s.writeByte (s.sp - 1) (hiByte s.pc)).writeByte (s.sp - 2) (loByte s.pc))
      (s.commitEI.awake.interruptsOff.push16 s.pc) := by
  have hMemory : SameMemory s s.commitEI.awake.interruptsOff := by
    constructor <;> simp [State.interruptsOff]
  have hSp : s.commitEI.awake.interruptsOff.sp = s.sp := s.commitEI_sp
  have hStores := (hMemory.writeByte (s.sp - 1) (hiByte s.pc)).writeByte (s.sp - 2) (loByte s.pc)
  rw [State.push16, hSp]
  exact ⟨hStores.vram, hStores.cartRam, hStores.wram, hStores.oam, hStores.io, hStores.hram, hStores.ie,
    hStores.ramEnable, hStores.romBankLow5, hStores.romBankHigh2, hStores.bankingMode, hStores.rom, hStores.romLen,
    hStores.romBanks⟩

/-- Besides `IF`, a dispatch leaves the two stores on the stack, `PC`, `SP`, the latches and the count. -/
theorem takeInterrupt_frame (s : State) (src : Source) :
    (s.commitEI.awake.takeInterrupt src).addCycles 5 =
      { (s.writeByte (s.sp - 1) (hiByte s.pc)).writeByte (s.sp - 2) (loByte s.pc) with
        io := ((s.commitEI.awake.takeInterrupt src).addCycles 5).io
        pc := src.vector, sp := s.sp - 2
        ime := false, imePending := false, eiJust := false, halted := false, cycles := s.cycles + 5 } := by
  have hPush := sameMemory_dispatchPush s
  have hPc : s.commitEI.awake.pc = s.pc := s.commitEI_pc
  rw [State.takeInterrupt_eq, hPc]
  apply State.ext
  case vram => exact hPush.vram
  case cartRam => exact hPush.cartRam
  case wram => exact hPush.wram
  case oam => exact hPush.oam
  case hram => exact hPush.hram
  case ie => exact hPush.ie
  case ramEnable => exact hPush.ramEnable
  case romBankLow5 => exact hPush.romBankLow5
  case romBankHigh2 => exact hPush.romBankHigh2
  case bankingMode => exact hPush.bankingMode
  all_goals simp [State.interruptsOff]

/-! The delay of `EI` (R341, D1). -/

/-- An enable that is due is committed. -/
theorem State.commitEI_due {s : State} (hPending : s.imePending = true) (hJust : s.eiJust = false) :
    s.commitEI = { s with ime := true, imePending := false } := by
  simp [State.commitEI, hPending, hJust]

/-- An `EI` of the step just before waits. -/
theorem State.commitEI_just {s : State} (hPending : s.imePending = true) (hJust : s.eiJust = true) :
    s.commitEI = { s with eiJust := false } := by
  simp [State.commitEI, hPending, hJust]

theorem State.commitEI_notPending {s : State} (hPending : s.imePending = false) : s.commitEI = s := by
  simp [State.commitEI, hPending]

/-- The commit does not look at `halted`. -/
theorem State.commitEI_awake (s : State) : s.awake.commitEI.awake = s.commitEI.awake := by
  unfold State.commitEI State.awake
  dsimp only
  split_ifs <;> rfl

theorem exec_ei_notPending {s : State} (h : s.imePending = false) :
    exec .ei s = .next { s with imePending := true, eiJust := true } := by
  simp [exec_ei, enableLater, h]

theorem exec_ei_pending {s : State} (h : s.imePending = true) : exec .ei s = .next s := by
  simp [exec_ei, enableLater, h]

/-- The step after an `EI` dispatches nothing, and runs its instruction whatever is pending. -/
theorem step_eiJust {t : State} (hFault : t.faultLatch = none) (hIme : t.ime = false)
    (hPending : t.imePending = true) (hJust : t.eiJust = true) (hAwake : t.halted = false) :
    step t = t.commitEI.awake.runInstruction := by
  refine step_run hFault (.inl ?_) (.inl hAwake)
  rw [State.commitEI_just hPending hJust]
  exact hIme

/-- After that step the enable is due, unless its instruction was `DI`. -/
theorem enable_due_after_eiJust {t u : State} (hIme : t.ime = false) (hPending : t.imePending = true)
    (hJust : t.eiJust = true) (h : t.commitEI.awake.runInstruction = .next u) (hDi : t.fetched ≠ .di) :
    u.imePending = true ∧ u.eiJust = false ∧ (t.fetched ≠ .reti → u.ime = false) := by
  have hReady : t.readyToRun = { t with
      eiJust := false, halted := false, pc := t.pc + BitVec.ofNat 16 (opLength t.opcode) } := by
    rw [State.readyToRun, State.commitEI_just hPending hJust]
  obtain ⟨w, hExec, rfl⟩ := run_next h
  rw [hReady] at hExec
  obtain ⟨hStill, hClear⟩ := exec_keeps_eiLatch hExec hPending hDi
  refine ⟨hStill, hClear, fun hReti => ?_⟩
  rcases exec_ime hExec with hKept | ⟨hIsDi, _⟩ | ⟨hIsReti, _⟩
  · exact hKept.trans hIme
  · exact absurd hIsDi hDi
  · exact absurd hIsReti hReti

/-- A halted state that is woken steps as the awake state does. -/
theorem step_awake {s : State} (hFault : s.faultLatch = none) (hPending : s.pendingSource ≠ none) :
    step s = step s.awake := by
  obtain ⟨src, hSrc⟩ := Option.ne_none_iff_exists'.1 hPending
  have hIme : s.awake.commitEI.ime = s.commitEI.ime := by
    rw [← State.awake_ime, State.commitEI_awake, State.awake_ime]
  cases hOn : s.commitEI.ime with
  | true =>
    rw [step_dispatch hFault hOn hSrc, step_dispatch (s := s.awake) hFault (hIme.trans hOn) hSrc,
      State.commitEI_awake]
  | false =>
    rw [step_run hFault (.inl hOn) (.inr hPending),
      step_run (s := s.awake) hFault (.inl (hIme.trans hOn)) (.inr hPending), State.commitEI_awake]

/-! The obligations. -/

/-- Settles O19: each undefined row is `raiseIllegal` of its byte. -/
theorem undefinedOpcodeLatchesTheFault : Obligations.UndefinedOpcodeLatchesTheFault :=
  fun k s => ⟨_, exec_illegal k s, rfl, raiseIllegal_sameBytes s k.byte⟩

/-- Settles O20: of the four things a step can do only an instruction can latch, and only an undefined opcode does. -/
theorem faultOnlyAtAnUndefinedOpcode : Obligations.FaultOnlyAtAnUndefinedOpcode := by
  intro s t hFault h
  have hCommit : s.commitEI.faultLatch = none := s.commitEI_faultLatch.trans hFault
  rcases step_cases s with ⟨hSome, _⟩ | ⟨_, src, hPending, hIme, hs⟩ | ⟨_, hHalted, hPending, hs⟩
    | ⟨_, hNoDispatch, hAwake, hs⟩
  · exact absurd hFault hSome
  · rw [hs] at h
    cases h
    simp [hFault, hIme, hPending]
  · rw [hs] at h
    cases h
    simp [hFault, hHalted, hPending]
  rw [hs] at h
  obtain ⟨u, hExec, rfl⟩ := run_next h
  by_cases hOp : s.readByte s.pc ∈ undefinedOpcodes
  · obtain ⟨k, hk⟩ := (mem_undefinedOpcodes_iff _).1 hOp
    have hFetched : s.fetched = .illegal k := (fetched_illegal_iff s k).2 hk
    rw [hFetched, exec_illegal] at hExec
    cases hExec
    rw [run_illegal hFetched rfl]
    simp [hOp, hNoDispatch, hAwake]
  · have hKept : u.faultLatch = none := by
      rcases exec_faultLatch hExec with hKept | ⟨k, hFetched, _⟩
      · exact hKept.trans hCommit
      · exact absurd ((mem_undefinedOpcodes_iff _).2 ⟨k, (fetched_illegal_iff s k).1 hFetched⟩) hOp
    simp [hOp, hKept]

/-- Settles O21: `lowestSource` tests the five bits in rising order. -/
theorem lowestEnabledSourceIsServed : Obligations.LowestEnabledSourceIsServed := by
  intro s src
  rw [State.pendingSource_eq]
  refine ⟨?_, lowestSource_eq_none_iff _⟩
  rw [lowestSource_eq_some_iff]
  simp only [getLsbD_mask_source]

/-- Settles O22: the two stores look at memory alone, so they are those of the state before the step. -/
theorem interruptIsTaken : Obligations.InterruptIsTaken := by
  intro s src hFault hIme hPending
  have hPush := sameMemory_dispatchPush s
  have hPc : s.commitEI.awake.pc = s.pc := s.commitEI_pc
  have hOther (b : Word) (hb : b ≠ 0xFF0F) :
      ((s.commitEI.awake.takeInterrupt src).addCycles 5).readByte b
        = ((s.writeByte (s.sp - 1) (hiByte s.pc)).writeByte (s.sp - 2) (loByte s.pc)).readByte b := by
    rw [State.readByte_addCycles, State.readByte_takeInterrupt, if_neg hb, hPc, hPush.readByte]
  refine ⟨_, _, step_dispatch hFault hIme hPending, rfl, ?_, ?_, hOther, fun b hb hHigh hLow => ?_⟩
  · rw [← Source.vector_eq]
    exact takeInterrupt_frame s src
  · rw [State.readByte_addCycles, State.readByte_takeInterrupt, if_pos rfl, hPc, hPush.readByte]
    rfl
  · rw [hOther b hb]
    exact State.readByte_push16 (v := s.pc) hHigh hLow

/-- Settles O23: the idle step adds its one cycle to the committed state. -/
theorem haltedCoreIdles : Obligations.HaltedCoreIdles := by
  intro s hFault hHalted hPending
  rw [step_idle hFault hHalted hPending, State.addCycles, State.commitEI_cycles]
  rfl

/-- Settles O24: the commit and the pending sources do not look at `halted`, and the wake clears it. -/
theorem enabledSourceWakesTheCore : Obligations.EnabledSourceWakesTheCore := by
  intro s hFault hHalted hPending
  refine ⟨step_awake hFault hPending, fun t h hFetched => ?_⟩
  rcases step_cases s with ⟨hSome, _⟩ | ⟨_, src, _, _, hs⟩ | ⟨_, _, hNone, _⟩ | ⟨_, _, _, hs⟩
  · exact absurd hFault hSome
  · rw [hs] at h
    cases h
    simp
  · exact absurd hNone hPending
  · rw [hs] at h
    obtain ⟨u, hExec, rfl⟩ := run_next h
    exact (exec_halted hExec).resolve_right hFetched

/-- Settles O25: the commit of the step after `EI` only clears `eiJust`, so that step runs its instruction, and the
latch it leaves is due. -/
theorem eiEnablesAfterOneInstruction : Obligations.EiEnablesAfterOneInstruction := by
  intro s t hFault hIme hNotPending hAwake hEi h
  have hCommit : s.commitEI = s := State.commitEI_notPending hNotPending
  have hReady : s.readyToRun.imePending = false := by
    rw [State.readyToRun, hCommit]
    exact hNotPending
  have hOff : s.commitEI.ime = false := (congrArg State.ime hCommit).trans hIme
  rw [step_run hFault (.inl hOff) hAwake] at h
  obtain ⟨u, hExec, ht⟩ := run_next h
  rw [hEi, exec_ei_notPending hReady] at hExec
  cases hExec
  have hTIme : t.ime = false := by rw [ht]; exact hOff
  have hTFault : t.faultLatch = none := by rw [ht]; exact s.commitEI_faultLatch.trans hFault
  have hTAwake : t.halted = false := by rw [ht]; rfl
  have hTPending : t.imePending = true := by rw [ht]; rfl
  have hTJust : t.eiJust = true := by rw [ht]; rfl
  have hStep := step_eiJust hTFault hTIme hTPending hTJust hTAwake
  have hTCommit := State.commitEI_just hTPending hTJust
  refine ⟨hTIme, hTPending, hTJust, by rw [hTCommit]; exact hTIme, by rw [hStep, hTCommit]; rfl, fun u hu hDi => ?_⟩
  rw [hStep] at hu
  obtain ⟨hStill, hClear, hKept⟩ := enable_due_after_eiJust hTIme hTPending hTJust hu hDi
  rw [State.commitEI_due hStill hClear]
  exact ⟨rfl, rfl, hKept⟩

/-- Settles O26: an idle step writes neither; a dispatch clears `IME` and never sets `halted`; an instruction is
`exec_ime` and `exec_halted`. -/
theorem onlyListedEventsWriteImeAndHalted : Obligations.OnlyListedEventsWriteImeAndHalted := by
  intro s t hFault h
  rcases step_cases s with ⟨hSome, _⟩ | ⟨_, src, hPending, hIme, hs⟩ | ⟨_, hHalted, _, hs⟩ | ⟨_, _, _, hs⟩
  · exact absurd hFault hSome
  · rw [hs] at h
    cases h
    simp [hIme, hPending]
  · rw [hs] at h
    cases h
    simp +contextual [hHalted]
  · rw [hs] at h
    obtain ⟨u, hExec, rfl⟩ := run_next h
    refine ⟨fun hOff hOn => ?_, fun hOn hOff => ?_, fun _ hSet => ?_⟩
    · rcases exec_ime hExec with hKept | ⟨_, hDi⟩ | ⟨hReti, _⟩
      · exact absurd ((hKept.trans hOff).symm.trans hOn) nofun
      · exact absurd (hDi.symm.trans hOn) nofun
      · exact hReti
    · rcases exec_ime hExec with hKept | ⟨hDi, _⟩ | ⟨_, hReti⟩
      · exact absurd ((hKept.trans hOn).symm.trans hOff) nofun
      · exact .inl hDi
      · exact absurd (hReti.symm.trans hOff) nofun
    · rcases exec_halted hExec with hKept | hHalt
      · exact absurd (hKept.symm.trans hSet) nofun
      · exact hHalt

end Sys2Proof.Machine
end

section
/-! PROOFS. The frame of a store, the MBC1 latches and banks, and the OAM copy (O29, O31 to O33). -/

namespace Sys2Proof.Machine

/-! A store changes memory only (R70). -/

theorem State.writeByte_frame (s : State) (a : Word) (v : Byte) :
    s.writeByte a v = s.withMemoryOf (s.writeByte a v) := by
  apply State.ext <;> simp [State.withMemoryOf]

/-! The bits a latch is loaded from, as numbers (R72). -/

theorem lowNibble_beq_ten (v : Byte) : (v &&& 0x0F == 0x0A) = decide (v.toNat % 16 = 0x0A) := by
  revert v; decide +kernel

theorem bankLow_of_byte (v : Byte) :
    (if BitVec.setWidth 5 v = 0 then 1 else BitVec.setWidth 5 v)
      = if v.toNat % 32 = 0 then 1 else BitVec.ofNat 5 (v.toNat % 32) := by
  revert v; decide +kernel

theorem bankHigh_of_byte (v : Byte) : BitVec.setWidth 2 v = BitVec.ofNat 2 (v.toNat % 4) := by
  revert v; decide +kernel

theorem bit0_of_byte (v : Byte) : v.getLsbD 0 = decide (v.toNat % 2 = 1) := by
  revert v; decide +kernel

/-! The effective banks (R75, R76). -/

theorem State.unmaskedRomBank_eq (s : State) :
    s.unmaskedRomBank = s.romBankHigh2.toNat * 32 + s.romBankLow5.toNat := by
  rw [State.unmaskedRomBank, ← Nat.shiftLeft_add_eq_or_of_lt s.romBankLow5.isLt, Nat.shiftLeft_eq]

theorem State.romBank_eq {s : State} (h : ∃ k, s.romBanks = 2 ^ (k + 1)) :
    s.romBank = s.unmaskedRomBank % s.romBanks := by
  obtain ⟨k, hk⟩ := h
  rw [State.romBank, hk, Nat.and_two_pow_sub_one_eq_mod]

theorem State.Inv.bankLow_pos {s : State} (h : s.Inv) : 0 < s.romBankLow5.toNat :=
  Nat.pos_of_ne_zero fun hZero => h.bankLow (BitVec.eq_of_toNat_eq hZero)

/-! The OAM copy (R78). -/

/-- The address of byte `i` of page `v`. -/
theorem pageAddress (v : Byte) (i : Nat) : mkWord v 0 + BitVec.ofNat 16 i = BitVec.ofNat 16 (v.toNat * 256 + i) := by
  apply BitVec.eq_of_toNat_eq
  rw [BitVec.toNat_add, mkWord_toNat, BitVec.toNat_ofNat, BitVec.toNat_ofNat, Nat.add_mod_mod,
    show (0 : Byte).toNat = 0 from rfl, Nat.add_zero]

theorem locate_oamCell (s : State) {i : Nat} (h : i < 160) :
    s.locate (0xFE00 + BitVec.ofNat 16 i) = some (.oam i) := by
  have hAddress : ((0xFE00 : Word) + BitVec.ofNat 16 i).toNat = 0xFE00 + i := by
    rw [BitVec.toNat_add, BitVec.toNat_ofNat, show (0xFE00 : Word).toNat = 0xFE00 from rfl]
    omega
  exact (s.locate_oam _ i).2 ⟨(regionOf_oam _).2 (by omega), hAddress⟩

/-- Only `$FF46` names the DMA register. -/
theorem locate_dma_iff (s : State) (b : Word) : s.locate b = some (.io 0x46) ↔ b = dmaAddr := by
  constructor
  · intro h
    exact BitVec.eq_of_toNat_eq ((s.locate_io b _).1 h).2
  · rintro rfl
    exact s.locate_dmaAddr

/-- A read after a store to `$FF46`: the byte at the register, what the copy leaves elsewhere. -/
theorem State.readByte_writeByte_dma (s : State) (v : Byte) (b : Word) :
    (s.writeByte dmaAddr v).readByte b = if b = dmaAddr then v else (s.oamDma v).readByte b := by
  rw [State.writeByte_dma, State.readByte_writePlace _ _ _ (by simp)]
  simp only [locate_dma_iff]

/-! The obligations. -/

/-- Settles O29: the frame of a store, and that a store changes memory only. -/
theorem storeLeavesTheRestAlone : Obligations.StoreLeavesTheRestAlone :=
  fun s addr v => ⟨s.readsAsBefore_writeByte addr v, s.writeByte_frame addr v⟩

/-- Settles O31: a store into ROM space is `mbc1Write`, whose ranges are the document's. -/
theorem romSpaceWritesLoadTheLatches : Obligations.RomSpaceWritesLoadTheLatches := by
  intro s addr v
  refine ⟨fun h => ?_, fun h h' => ?_, fun h h' => ?_, fun h h' => ?_⟩
  all_goals rw [s.writeByte_romSpace addr v (by omega), State.mbc1Write]; dsimp only
  · rw [if_pos h, lowNibble_beq_ten]
  · rw [if_neg (by omega), if_pos h', bankLow_of_byte]
  · rw [if_neg (by omega), if_neg (by omega), if_pos h', bankHigh_of_byte]
  · rw [if_neg (by omega), if_neg (by omega), if_neg (by omega), bit0_of_byte]

/-- Settles O32: `rom_bank_low5` is 1 to 31, so the unmasked number is no multiple of 32. -/
theorem effectiveBanks : Obligations.EffectiveBanks := by
  intro s hInv
  have hLow := hInv.bankLow_pos
  have hLt := s.romBankLow5.isLt
  rw [State.romBank_eq hInv.banks, State.unmaskedRomBank_eq]
  refine ⟨rfl, by omega, by omega, by omega, by omega, fun h => ?_, fun h => ?_, fun addr h h' => ⟨rfl, ?_⟩⟩
  · simp [State.ramBank, h]
  · simp [State.ramBank, h]
  · exact s.ramIndex_lt addr ((regionOf_cartRam addr).2 ⟨h, h'⟩)

/-- Settles O33: the copy reads every byte of the page as it was, and then the register is stored. -/
theorem oamDmaCopiesThePage : Obligations.OamDmaCopiesThePage := by
  intro s v
  have hRead := s.readByte_writeByte_dma v
  refine ⟨fun i hi => ?_, (hRead dmaAddr).trans (if_pos rfl), ?_, fun b hb hOam => ?_⟩
  · have hCell := locate_oamCell s hi
    have hNe : (0xFE00 + BitVec.ofNat 16 i : Word) ≠ dmaAddr := by
      intro hDma
      rw [hDma, State.locate_dmaAddr] at hCell
      cases hCell
    rw [← pageAddress]
    exact (hRead _).trans ((if_neg hNe).trans (s.readByte_oamDma_oam v _ i hCell))
  · show s.writeByte dmaAddr v = { s with oam := (s.writeByte dmaAddr v).oam, io := (s.writeByte dmaAddr v).io }
    rw [State.writeByte_dma]
    apply State.ext <;> simp [State.writePlace]
  · exact (hRead b).trans ((if_neg hb).trans (s.readByte_oamDma_other v b (mt (regionOf_oam b).1 hOam)))

end Sys2Proof.Machine
end

section
/-! PROOFS. Control and loads (O35 to O40). -/

namespace Sys2Proof.Machine

/-! Registers, pairs and addresses. -/

theorem sameBytes_setReg (s : State) (r : Reg8) (v : Byte) : SameBytes s (s.setReg r v) := s.readByte_setReg r v

theorem sameBytes_setPair (s : State) (p : Reg16) (v : Word) : SameBytes s (s.setPair p v) := s.readByte_setPair p v

@[simp] theorem State.hl_setHl (s : State) (v : Word) : (s.setHl v).hl = v := mkWord_hi_lo v

@[simp] theorem State.writeByte_hl (s : State) (a : Word) (v : Byte) : (s.writeByte a v).hl = s.hl := by
  simp [State.hl]

theorem State.pair_setPair_other (s : State) {p q : Reg16} (v : Word) (h : q ≠ p) :
    (s.setPair p v).pair q = s.pair q := by
  cases p <;> cases q
  case bc.bc | de.de | hl.hl | sp.sp => exact absurd rfl h
  all_goals rfl

theorem toNat_add_one (w : Word) : (w + 1).toNat = (w.toNat + 1) % 65536 := BitVec.toNat_add w 1

theorem toNat_sub_one (w : Word) : (w - 1).toNat = (w.toNat + 65535) % 65536 := by
  rw [BitVec.toNat_sub, Nat.add_comm]
  rfl

theorem highPage_eq (off : Byte) : highPage off = BitVec.ofNat 16 (0xFF00 + off.toNat) := by
  revert off; decide +kernel

/-! What a store of one byte leaves (R70 to R74). -/

theorem storeLeaves_writeByte (s : State) (a : Word) (v : Byte) : StoreLeaves s a v (s.writeByte a v) := by
  refine ⟨rfl, s.writeByte_frame a v, s.readsAsBefore_writeByte a v, fun hHolds => ?_⟩
  obtain ⟨_, _, _, hBacked⟩ := id hHolds
  exact s.readByte_writeByte_same a v hHolds.outside_rom hBacked

theorem storeAt_leaves (s : State) (a : Word) (v : Byte) :
    ∃ t, storeAt a v s = .next t ∧ StoreLeaves s a v t := ⟨_, rfl, storeLeaves_writeByte s a v⟩

/-- The high-page forms, by the number of their address (R155, R157). -/
theorem storeAt_highPage_leaves (s : State) (off v : Byte) :
    ∃ t, storeAt (highPage off) v s = .next t ∧ StoreLeaves s (BitVec.ofNat 16 (0xFF00 + off.toNat)) v t := by
  rw [← highPage_eq]
  exact storeAt_leaves s _ v

/-- The byte is stored at the old `HL`, which then moves (R147, R148, G7). -/
theorem storeAThenMoveHl_leaves (s : State) (delta : Word) :
    ∃ t, storeAThenMoveHl delta s = .next t ∧ StoreLeaves s s.hl s.a { t with h := s.h, l := s.l }
      ∧ t.hl = s.hl + delta := by
  refine ⟨_, rfl, ?_, by simp⟩
  have hBack : { (s.writeByte s.hl s.a).setHl ((s.writeByte s.hl s.a).hl + delta) with h := s.h, l := s.l }
      = s.writeByte s.hl s.a := by
    apply State.ext <;> simp
  rw [hBack]
  exact storeLeaves_writeByte s s.hl s.a

/-- The byte is read at the old `HL`, which then moves (R151, R152, G7). -/
theorem loadAThenMoveHl_leaves (s : State) (delta : Word) :
    ∃ t, loadAThenMoveHl delta s = .next t ∧ t = { s with a := s.readByte s.hl, h := t.h, l := t.l }
      ∧ t.hl = s.hl + delta ∧ SameBytes s t :=
  ⟨_, rfl, rfl, State.hl_setHl _ _, fun _ => rfl⟩

/-- The high-page loads, by the number of their address (R156, R158). -/
theorem loadA_highPage_leaves (s : State) (off : Byte) :
    ∃ t, loadRegFrom .a (highPage off) s = .next t
      ∧ t = { s with a := s.readByte (BitVec.ofNat 16 (0xFF00 + off.toNat)) } ∧ SameBytes s t := by
  rw [← highPage_eq]
  exact ⟨_, rfl, rfl, fun _ => rfl⟩

/-! Two stores, one after the other. -/

theorem State.two_stores_frame (s : State) (a b : Word) (v w : Byte) :
    (s.writeByte a v).writeByte b w = s.withMemoryOf ((s.writeByte a v).writeByte b w) := by
  apply State.ext <;> simp [State.withMemoryOf]

/-- What neither store reaches reads as before. -/
theorem State.readByte_two_stores {s : State} {a b c : Word} {v w : Byte} (hFirst : storeAffects s a c = false)
    (hSecond : storeAffects (s.writeByte a v) b c = false) :
    ((s.writeByte a v).writeByte b w).readByte c = s.readByte c :=
  (State.readsAsBefore_writeByte _ b w c hSecond).trans (State.readsAsBefore_writeByte s a v c hFirst)

/-! The obligations. -/

/-- Settles O35: the rows of `exec` themselves. -/
theorem nopStopHalt : Obligations.NopStopHalt :=
  fun s n => ⟨exec_nop s, exec_stop n s, exec_halt s⟩

/-- Settles O36: both forms are one write of a register. -/
theorem loadsIntoARegister : Obligations.LoadsIntoARegister := by
  intro s r
  constructor
  · intro src
    exact ⟨_, exec_ldRegReg r src s, rfl, s.reg_setReg_same r _, fun q => s.reg_setReg_other r q _,
      sameBytes_setReg s r _⟩
  · intro n
    exact ⟨_, exec_ldRegD8 r n s, rfl, s.reg_setReg_same r n, fun q => s.reg_setReg_other r q n,
      sameBytes_setReg s r n⟩

/-- Settles O37: each form is one write of a register, the last two with the move of `HL` after it. -/
theorem loadsFromMemory : Obligations.LoadsFromMemory := by
  intro s
  obtain ⟨t, ht, hFrame, hHl, hBytes⟩ := loadAThenMoveHl_leaves s 1
  obtain ⟨u, hu, hFrame', hHl', hBytes'⟩ := loadAThenMoveHl_leaves s (-1)
  refine ⟨fun r => ?_, ⟨_, exec_ldAAtBc s, rfl, fun _ => rfl⟩, ⟨_, exec_ldAAtDe s, rfl, fun _ => rfl⟩,
    fun w => ⟨_, exec_ldAAtA16 w s, rfl, fun _ => rfl⟩, loadA_highPage_leaves s, loadA_highPage_leaves s s.c,
    ⟨t, ht, hFrame, ?_, hBytes⟩, ⟨u, hu, hFrame', ?_, hBytes'⟩⟩
  · exact ⟨_, exec_ldRegAtHl r s, rfl, fun q => s.reg_setReg_other r q _, sameBytes_setReg s r _⟩
  · rw [hHl, toNat_add_one]
  · rw [hHl', ← BitVec.sub_eq_add_neg, toNat_sub_one]

/-- Settles O38: each form is `storeAt` its address, the last two with the move of `HL` after it. -/
theorem storesOfAByte : Obligations.StoresOfAByte := by
  intro s
  obtain ⟨t, ht, hStore, hHl⟩ := storeAThenMoveHl_leaves s 1
  obtain ⟨u, hu, hStore', hHl'⟩ := storeAThenMoveHl_leaves s (-1)
  refine ⟨fun r => ?_, fun n => storeAt_leaves s s.hl n, storeAt_leaves s s.bc s.a, storeAt_leaves s s.de s.a,
    fun w => storeAt_leaves s w s.a, fun n => storeAt_highPage_leaves s n s.a, storeAt_highPage_leaves s s.c s.a,
    ⟨t, ht, hStore, ?_⟩, ⟨u, hu, hStore', ?_⟩⟩
  · rw [exec_ldAtHlReg]
    exact storeAt_leaves s s.hl (s.reg r)
  · rw [hHl, toNat_add_one]
  · rw [hHl', ← BitVec.sub_eq_add_neg, toNat_sub_one]

/-- Settles O39: each form is one write of a pair. -/
theorem loadsOfAPair : Obligations.LoadsOfAPair := by
  intro s
  refine ⟨fun p w => ?_, ⟨_, exec_ldSpHl s, rfl, fun _ => rfl⟩⟩
  exact ⟨_, exec_ldPairD16 p w s, rfl, s.pair_setPair p w, fun q => s.pair_setPair_other w, s.setPair_a p w,
    s.setPair_f p w, sameBytes_setPair s p w⟩

/-- Settles O40: two stores at neighbouring addresses, which name different cells where both hold. -/
theorem storeOfSp : Obligations.StoreOfSp := by
  intro s w
  exact ⟨_, exec_ldAtA16Sp w s, rfl, s.two_stores_frame _ _ _ _, fun b => State.readByte_two_stores,
    fun hLow hHigh => hLow.two_stores hHigh (hLow.locate_succ_ne hHigh) _ _⟩

end Sys2Proof.Machine
end

section
/-! PROOFS. Arithmetic and logic (O41 to O49, O51). -/

namespace Sys2Proof.Machine

/-! What the shared operations leave: the result of an operation put in `A`, in an operand, in `HL` (R194, R300). -/

theorem State.putA_frame (s : State) (r : AluOut) : s.putA r = { s with a := (s.putA r).a, f := (s.putA r).f } := rfl

@[simp] theorem State.putA_a (s : State) (r : AluOut) : (s.putA r).a = r.value := rfl

theorem flagsAre_putA (s : State) (r : AluOut) : FlagsAre (s.putA r) r.z r.n r.h r.c := flagsAre_setFlags _ _ _ _ _

theorem sameBytes_putA (s : State) (r : AluOut) : SameBytes s (s.putA r) := fun _ => rfl

@[simp] theorem State.reg_putOperand (s : State) (r : Reg8) (out : AluOut) :
    (s.putOperand (.reg r) out).reg r = out.value := by
  rw [State.putOperand, State.reg_setFlags]
  exact s.reg_setReg_same r out.value

theorem State.putOperand_reg_frame (s : State) (r : Reg8) (out : AluOut) :
    s.putOperand (.reg r) out = { s.setReg r ((s.putOperand (.reg r) out).reg r) with
      f := (s.putOperand (.reg r) out).f } := by
  rw [State.reg_putOperand]
  rfl

theorem State.putOperand_atHl_frame (s : State) (out : AluOut) :
    s.putOperand .atHl out = { s.writeByte s.hl out.value with f := (s.putOperand .atHl out).f } := rfl

theorem flagsAre_putOperand (s : State) (o : Operand8) (out : AluOut) :
    FlagsAre (s.putOperand o out) out.z out.n out.h out.c := flagsAre_setFlags _ _ _ _ _

theorem sameBytes_putOperand_reg (s : State) (r : Reg8) (out : AluOut) :
    SameBytes s (s.putOperand (.reg r) out) := sameBytes_setReg s r out.value

theorem readsAsBefore_putOperand_atHl (s : State) (out : AluOut) :
    ReadsAsBefore s (s.putOperand .atHl out) s.hl := s.readsAsBefore_writeByte s.hl out.value

/-! Numbers: the 16-bit sums (R172, R182, R183). -/

theorem toNat_add_sext16 (w : Word) (e : Byte) :
    ((w + sext16 e).toNat : Int) = ((w.toNat : Int) + e.toInt) % 65536 := by
  have hOffset := sext16_toNat e
  rw [BitVec.toNat_add]
  omega

theorem addSpOffset_h (sp : Word) (e : Byte) :
    (addSpOffset sp e).h = decide (sp.toNat % 16 + e.toNat % 16 > 15) := by
  rw [addSpOffset, low4_toNat, lowNibble_toNat]

theorem addSpOffset_c (sp : Word) (e : Byte) :
    (addSpOffset sp e).c = decide (sp.toNat % 256 + e.toNat > 255) := by
  rw [addSpOffset, low8_toNat]

theorem addWords_sum (a v : Word) :
    (addWords a v).value.toNat + 65536 * (addWords a v).c.toNat = a.toNat + v.toNat := by
  have ha := a.isLt
  have hv := v.isLt
  show (a + v).toNat + 65536 * (decide (a.toNat + v.toNat > 0xFFFF)).toNat = a.toNat + v.toNat
  rw [BitVec.toNat_add]
  by_cases hCarry : a.toNat + v.toNat > 0xFFFF
  · rw [decide_eq_true hCarry, Bool.toNat_true]; omega
  · rw [decide_eq_false hCarry, Bool.toNat_false]; omega

theorem addWords_h (a v : Word) : (addWords a v).h = decide (a.toNat % 4096 + v.toNat % 4096 > 4095) := by
  rw [addWords, low12_toNat, low12_toNat]

/-! Numbers: one up and one down (R190, R192). -/

theorem inc8_toNat (v : Byte) (c : Bool) : (inc8 v c).value.toNat = (v.toNat + 1) % 256 := BitVec.toNat_add v 1

theorem dec8_toNat (v : Byte) (c : Bool) : (dec8 v c).value.toNat = (v.toNat + 255) % 256 := by
  show (v - 1).toNat = _
  rw [BitVec.toNat_sub, Nat.add_comm]
  rfl

theorem inc8_z (v : Byte) (c : Bool) : (inc8 v c).z = decide (v.toNat = 255) := by
  revert v; cases c <;> decide +kernel

theorem dec8_z (v : Byte) (c : Bool) : (dec8 v c).z = decide (v.toNat = 1) := by
  revert v; cases c <;> decide +kernel

theorem inc8_h (v : Byte) (c : Bool) : (inc8 v c).h = decide (v.toNat % 16 = 15) := by
  rw [inc8, lowNibble_toNat, decide_eq_decide]
  omega

theorem dec8_h (v : Byte) (c : Bool) : (dec8 v c).h = decide (v.toNat % 16 = 0) := by
  rw [dec8, lowNibble_toNat, decide_eq_decide]
  omega

theorem inc8_value (v : Byte) (c : Bool) : (inc8 v c).value = BitVec.ofNat 8 (v.toNat + 1) := by
  apply BitVec.eq_of_toNat_eq
  rw [inc8_toNat, BitVec.toNat_ofNat]

theorem dec8_value (v : Byte) (c : Bool) : (dec8 v c).value = BitVec.ofNat 8 (v.toNat + 255) := by
  apply BitVec.eq_of_toNat_eq
  rw [dec8_toNat, BitVec.toNat_ofNat]

theorem flagsAre_inc8 (s : State) (o : Operand8) (v : Byte) (c : Bool) :
    FlagsAre (s.putOperand o (inc8 v c)) (decide (v.toNat = 255)) false (decide (v.toNat % 16 = 15)) c := by
  rw [← inc8_z v c, ← inc8_h v c]
  exact flagsAre_putOperand s o (inc8 v c)

theorem flagsAre_dec8 (s : State) (o : Operand8) (v : Byte) (c : Bool) :
    FlagsAre (s.putOperand o (dec8 v c)) (decide (v.toNat = 1)) true (decide (v.toNat % 16 = 0)) c := by
  rw [← dec8_z v c, ← dec8_h v c]
  exact flagsAre_putOperand s o (dec8 v c)

/-! Numbers: sum and difference with carry (R195 to R198). -/

theorem add8_sum (a v : Byte) (c : Bool) :
    (add8 a v c).value.toNat + 256 * (add8 a v c).c.toNat = a.toNat + v.toNat + c.toNat := by
  have ha := a.isLt
  have hv := v.isLt
  have hc := c.toNat_le
  show (BitVec.ofNat 8 (a.toNat + v.toNat + c.toNat)).toNat
    + 256 * (decide (a.toNat + v.toNat + c.toNat > 0xFF)).toNat = _
  rw [BitVec.toNat_ofNat]
  by_cases hCarry : a.toNat + v.toNat + c.toNat > 0xFF
  · rw [decide_eq_true hCarry, Bool.toNat_true]; omega
  · rw [decide_eq_false hCarry, Bool.toNat_false]; omega

theorem sub8_difference (a v : Byte) (c : Bool) :
    ((sub8 a v c).value.toNat : Int) = ((a.toNat : Int) - v.toNat - c.toNat) % 256 := by
  have ha := a.isLt
  have hv := v.isLt
  have hc := c.toNat_le
  show ((a - v - BitVec.ofNat 8 c.toNat).toNat : Int) = _
  rw [BitVec.toNat_sub, BitVec.toNat_sub, BitVec.toNat_ofNat]
  omega

theorem additionLeaves_add8 (s : State) (v : Byte) (c : Bool) : AdditionLeaves s v c (s.putA (add8 s.a v c)) := by
  have hFlags := flagsAre_putA s (add8 s.a v c)
  obtain ⟨_, _, _, hCarry, _⟩ := id hFlags
  refine ⟨s.putA_frame _, ?_, ?_, sameBytes_putA s _⟩
  · rw [hCarry]
    exact add8_sum s.a v c
  · rw [State.putA_a, ← beq_zero_byte, ← lowNibble_toNat, ← lowNibble_toNat]
    exact hFlags

theorem sub8_z (a v : Byte) (c : Bool) :
    (sub8 a v c).z = decide (((a.toNat : Int) - v.toNat - c.toNat) % 256 = 0) := by
  show ((sub8 a v c).value == 0) = _
  rw [beq_zero_byte, ← sub8_difference, decide_eq_decide]
  omega

/-- `CP` has these flags too: they do not look at `A` after it (R202). -/
theorem subtractionFlags_sub8 (s t : State) (v : Byte) (c : Bool)
    (h : FlagsAre t (sub8 s.a v c).z true (sub8 s.a v c).h (sub8 s.a v c).c) : SubtractionFlags s v c t := by
  rw [SubtractionFlags, ← sub8_z, ← lowNibble_toNat, ← lowNibble_toNat]
  exact h

theorem subtractionLeaves_sub8 (s : State) (v : Byte) (c : Bool) :
    SubtractionLeaves s v c (s.putA (sub8 s.a v c)) :=
  ⟨s.putA_frame _, sub8_difference s.a v c, subtractionFlags_sub8 s _ v c (flagsAre_putA s _), sameBytes_putA s _⟩

/-! Bits: `AND`, `XOR`, `OR` (R199 to R201). -/

/-- An operation that gives each bit of `A` from the bits at its place. -/
theorem bitwiseLeaves_putA (s : State) (v : Byte) (bit : Bool → Bool → Bool) (h : Bool) (out : AluOut)
    (hBits : ∀ i, i < 8 → out.value.getLsbD i = bit (s.a.getLsbD i) (v.getLsbD i))
    (hZ : out.z = (out.value == 0)) (hN : out.n = false) (hH : out.h = h) (hC : out.c = false) :
    BitwiseLeaves bit h s v (s.putA out) := by
  refine ⟨s.putA_frame out, hBits, ?_, sameBytes_putA s out⟩
  have hFlags := flagsAre_putA s out
  rw [hZ, hN, hH, hC] at hFlags
  exact hFlags

theorem bitwiseLeaves_and8 (s : State) (v : Byte) : BitwiseLeaves and true s v (s.putA (and8 s.a v)) :=
  bitwiseLeaves_putA s v _ _ _ (fun _ _ => BitVec.getLsbD_and) rfl rfl rfl rfl

theorem bitwiseLeaves_xor8 (s : State) (v : Byte) : BitwiseLeaves Bool.xor false s v (s.putA (xor8 s.a v)) :=
  bitwiseLeaves_putA s v _ _ _ (fun _ _ => BitVec.getLsbD_xor) rfl rfl rfl rfl

theorem bitwiseLeaves_or8 (s : State) (v : Byte) : BitwiseLeaves or false s v (s.putA (or8 s.a v)) :=
  bitwiseLeaves_putA s v _ _ _ (fun _ _ => BitVec.getLsbD_or) rfl rfl rfl rfl

/-! Bits: the rotates and shifts (R301 to R308). -/

/-- A shift to the left with a bit put in at the bottom. -/
theorem getLsbD_shiftLeft_in (v : Byte) (b : Bool) {i : Nat} (h : i < 8) :
    (v <<< 1 ||| asBit0 b).getLsbD i = if i = 0 then b else v.getLsbD (i - 1) := by
  have hBit : (asBit0 b).getLsbD i = (decide (i = 0) && b) := by
    cases b <;> simp [asBit0]
  rw [BitVec.getLsbD_or, BitVec.getLsbD_shiftLeft, hBit]
  split
  next hZero => simp [hZero]
  next hPos => simp [hPos, h]

/-- A shift to the right with a bit put in at the top. -/
theorem getLsbD_shiftRight_in (v : Byte) (b : Bool) {i : Nat} (h : i < 8) :
    (v >>> 1 ||| asBit7 b).getLsbD i = if i = 7 then b else v.getLsbD (i + 1) := by
  have hBit : (asBit7 b).getLsbD i = (decide (i = 7) && b) := by
    revert i; cases b <;> decide
  rw [BitVec.getLsbD_or, BitVec.getLsbD_ushiftRight, hBit, Nat.add_comm]
  split
  next hTop => simp [hTop]
  next hBelow => simp [hBelow]

theorem bit7_eq_asBit7 (v : Byte) : v &&& 0x80 = asBit7 (v.getLsbD 7) := by
  revert v; decide +kernel

theorem getLsbD_swap (v : Byte) {i : Nat} (h : i < 8) :
    (v <<< 4 ||| v >>> 4).getLsbD i = v.getLsbD ((i + 4) % 8) := by
  rw [BitVec.getLsbD_or, BitVec.getLsbD_shiftLeft, BitVec.getLsbD_ushiftRight]
  by_cases hLow : i < 4
  · rw [Nat.mod_eq_of_lt (by omega), Nat.add_comm]
    simp [hLow]
  · rw [show (i + 4) % 8 = i - 4 by omega, BitVec.getLsbD_of_ge v (4 + i) (by omega)]
    simp [hLow, h]

/-- Each operation is a shift by one with its own bit put in, but `SWAP`, a rotation by four. -/
theorem rotValue_bits (op : RotOp) (v : Byte) (c : Bool) (i : Nat) (h : i < 8) :
    (rotValue op v c).getLsbD i = rotSource op v c i := by
  cases op with
  | rlc | rl => exact getLsbD_shiftLeft_in v _ h
  | rrc | rr => exact getLsbD_shiftRight_in v _ h
  | sla => exact (congrArg (BitVec.getLsbD · i) BitVec.or_zero.symm).trans (getLsbD_shiftLeft_in v false h)
  | sra => exact (bit7_eq_asBit7 v ▸ getLsbD_shiftRight_in v _ h :)
  | srl => exact (congrArg (BitVec.getLsbD · i) BitVec.or_zero.symm).trans (getLsbD_shiftRight_in v false h)
  | swap => exact getLsbD_swap v h

theorem rotCarry_eq (op : RotOp) (v : Byte) : rotCarry op v = rotMovedOut op v := by
  cases op <;> rfl

theorem rotateA_leaves (op : RotOp) (s : State) : ∃ t, rotateA op s = .next t ∧ RotatedA op s t := by
  refine ⟨_, rfl, s.putA_frame _, rotValue_bits op s.a s.flagC, ?_, sameBytes_putA s _⟩
  rw [← rotCarry_eq]
  exact flagsAre_putA s (rotAOut op s.a s.flagC)

theorem toNat_complement (v : Byte) : (v ^^^ 0xFF).toNat = 255 - v.toNat := by
  revert v; decide +kernel

/-! The obligations. -/

/-- Settles O41: both forms put `addSpOffset` in their destination, and its two carries in the flags. -/
theorem spPlusDisplacement : Obligations.SpPlusDisplacement := by
  intro s e
  rw [← addSpOffset_h, ← addSpOffset_c]
  refine ⟨⟨_, exec_ldHlSpR8 e s, rfl, ?_, flagsAre_setFlags _ _ _ _ _, fun _ => rfl⟩,
    ⟨_, exec_addSpR8 e s, rfl, toNat_add_sext16 s.sp e, flagsAre_setFlags _ _ _ _ _, fun _ => rfl⟩⟩
  rw [← toNat_add_sext16]
  exact congrArg (fun w : Word => (w.toNat : Int)) (s.hl_setHl _)

/-- Settles O42: both forms are one write of the pair. -/
theorem incDecOfAPair : Obligations.IncDecOfAPair := by
  intro s p
  constructor
  · refine ⟨_, exec_incPair p s, ?_, ?_, fun q => s.pair_setPair_other _, s.setPair_f p _, sameBytes_setPair s p _⟩
    · rw [State.pair_setPair]
    · rw [State.pair_setPair, toNat_add_one]
  · refine ⟨_, exec_decPair p s, ?_, ?_, fun q => s.pair_setPair_other _, s.setPair_f p _, sameBytes_setPair s p _⟩
    · rw [State.pair_setPair]
    · rw [State.pair_setPair, toNat_sub_one]

/-- Settles O43: `addWords` gives the sum with its carry, and `Z` is written back as it was. -/
theorem addOfAPairToHl : Obligations.AddOfAPairToHl := by
  intro s p
  rw [← addWords_h]
  refine ⟨_, exec_addHlPair p s, rfl, ?_, flagsAre_setFlags _ _ _ _ _, fun _ => rfl⟩
  rw [State.flagC_setFlags]
  exact (congrArg (fun w : Word => w.toNat + _) (s.hl_setHl _)).trans (addWords_sum s.hl (s.pair p))

/-- Settles O44: each form puts the result of `inc8` or `dec8` in its operand. -/
theorem incDecOfAByte : Obligations.IncDecOfAByte := by
  intro s
  refine ⟨fun r => ⟨_, exec_incReg r s, s.putOperand_reg_frame r _, ?_, flagsAre_inc8 s _ _ _,
      sameBytes_putOperand_reg s r _⟩,
    fun r => ⟨_, exec_decReg r s, s.putOperand_reg_frame r _, ?_, flagsAre_dec8 s _ _ _,
      sameBytes_putOperand_reg s r _⟩,
    ⟨_, exec_incAtHl s, ?_, flagsAre_inc8 s _ _ _, readsAsBefore_putOperand_atHl s _⟩,
    ⟨_, exec_decAtHl s, ?_, flagsAre_dec8 s _ _ _, readsAsBefore_putOperand_atHl s _⟩⟩
  · rw [State.reg_putOperand, inc8_toNat]
    rfl
  · rw [State.reg_putOperand, dec8_toNat]
    rfl
  · rw [← inc8_value _ s.flagC]
    exact s.putOperand_atHl_frame _
  · rw [← dec8_value _ s.flagC]
    exact s.putOperand_atHl_frame _

/-- Settles O45: every form is `aluValue` on its operand. -/
theorem additionToA : Obligations.AdditionToA := fun s =>
  ⟨fun o => ⟨_, exec_alu .add o s, additionLeaves_add8 s _ false⟩,
    fun n => ⟨_, exec_aluD8 .add n s, additionLeaves_add8 s n false⟩,
    fun o => ⟨_, exec_alu .adc o s, additionLeaves_add8 s _ s.flagC⟩,
    fun n => ⟨_, exec_aluD8 .adc n s, additionLeaves_add8 s n s.flagC⟩⟩

/-- `CP` puts back the `A` it found (R202). -/
theorem cp_leaves (s : State) (v : Byte) : ∃ t, aluValue .cp v s = .next t
    ∧ t = { s with f := t.f } ∧ SubtractionFlags s v false t ∧ SameBytes s t :=
  ⟨_, rfl, rfl, subtractionFlags_sub8 s _ v false (flagsAre_putA s (cp8 s.a v)), sameBytes_putA s _⟩

/-- Settles O46: every form is `aluValue` on its operand. -/
theorem subtractionFromA : Obligations.SubtractionFromA := by
  intro s
  refine ⟨fun o => ⟨_, exec_alu .sub o s, subtractionLeaves_sub8 s _ false⟩,
    fun n => ⟨_, exec_aluD8 .sub n s, subtractionLeaves_sub8 s n false⟩,
    fun o => ⟨_, exec_alu .sbc o s, subtractionLeaves_sub8 s _ s.flagC⟩,
    fun n => ⟨_, exec_aluD8 .sbc n s, subtractionLeaves_sub8 s n s.flagC⟩, fun o => ?_, fun n => ?_⟩
  · rw [exec_alu]
    exact cp_leaves s (s.readOperand o)
  · rw [exec_aluD8]
    exact cp_leaves s n

/-- Settles O47: every form is `aluValue` on its operand. -/
theorem bitwiseOnA : Obligations.BitwiseOnA := fun s =>
  ⟨fun o => ⟨_, exec_alu .and o s, bitwiseLeaves_and8 s _⟩, fun n => ⟨_, exec_aluD8 .and n s, bitwiseLeaves_and8 s n⟩,
    fun o => ⟨_, exec_alu .xor o s, bitwiseLeaves_xor8 s _⟩, fun n => ⟨_, exec_aluD8 .xor n s, bitwiseLeaves_xor8 s n⟩,
    fun o => ⟨_, exec_alu .or o s, bitwiseLeaves_or8 s _⟩, fun n => ⟨_, exec_aluD8 .or n s, bitwiseLeaves_or8 s n⟩⟩

/-- Settles O48: each is `rotateA` of its operation. -/
theorem rotatesOfA : Obligations.RotatesOfA := fun s =>
  ⟨rotateA_leaves .rlc s, rotateA_leaves .rrc s, rotateA_leaves .rl s, rotateA_leaves .rr s⟩

/-- Settles O51: each writes all four flags, those it does not name with what they were (D20). -/
theorem complementAndCarryOperations : Obligations.ComplementAndCarryOperations := by
  intro s
  refine ⟨⟨_, _, exec_cpl s, rfl, ?_, flagsAre_setFlags _ _ _ _ _, fun _ => rfl, exec_cpl _, ?_⟩,
    ⟨_, exec_scf s, rfl, flagsAre_setFlags _ _ _ _ _, fun _ => rfl⟩,
    ⟨_, _, exec_ccf s, rfl, flagsAre_setFlags _ _ _ _ _, fun _ => rfl, exec_ccf _, ?_, ?_⟩⟩
  · exact toNat_complement s.a
  · exact BitVec.xor_assoc s.a 0xFF 0xFF |>.trans BitVec.xor_zero
  · rw [State.flagC_setFlags, State.flagC_setFlags, Bool.not_not]
  · rw [State.flagZ_setFlags, State.flagZ_setFlags]

end Sys2Proof.Machine
end

section
/-! PROOFS. `DAA` (O49), and decimal arithmetic with it (O50). -/

namespace Sys2Proof.Machine

/-! The correction as a number (R234). -/

/-- After an addition both tests look at `A` and its flags before the correction. -/
theorem daaOut_add_toNat (a : Byte) (h c : Bool) :
    (daaOut a false h c).value.toNat = (a.toNat + (if c = true ∨ a.toNat > 0x99 then 0x60 else 0)
      + (if h = true ∨ a.toNat % 16 > 9 then 6 else 0)) % 256 := by
  simp only [daaOut, lowNibble_toNat, Bool.false_eq_true, if_false, Bool.or_eq_true, decide_eq_true_eq]
  split_ifs <;> rw [BitVec.toNat_add] <;> simp [Nat.add_assoc]

theorem daaOut_add_c (a : Byte) (h c : Bool) :
    (daaOut a false h c).c = decide (c = true ∨ a.toNat > 0x99) := by
  simp [daaOut]

/-- After a subtraction only the flags count. -/
theorem daaOut_sub_toNat (a : Byte) (h c : Bool) :
    ((daaOut a true h c).value.toNat : Int) = ((a.toNat : Int) - (if c = true then 0x60 else 0)
      - (if h = true then 6 else 0)) % 256 := by
  have ha := a.isLt
  simp only [daaOut, if_true]
  cases h <;> cases c <;> simp [BitVec.toNat_sub] <;> omega

theorem flagsAre_daa (s : State) (n h c : Bool) :
    FlagsAre (s.putA (daaOut s.a n h c)) (decide ((daaOut s.a n h c).value.toNat = 0)) n false
      (daaOut s.a n h c).c := by
  rw [← beq_zero_byte]
  exact flagsAre_putA s (daaOut s.a n h c)

/-! Two-digit decimal numbers. -/

theorem bcd_toNat {x : Nat} (h : x < 100) : (bcd x).toNat = x / 10 * 16 + x % 10 := by
  rw [bcd, BitVec.toNat_ofNat]
  omega

/-- A byte is the BCD of a number below 100 when its digits are. -/
theorem eq_bcd_of_toNat {v : Byte} {x : Nat} (hx : x < 100) (h : v.toNat = x / 10 * 16 + x % 10) : v = bcd x :=
  BitVec.eq_of_toNat_eq (h.trans (bcd_toNat hx).symm)

/-- `hi` and `lo` are the sums of the tens and of the units: the two tests of `DAA` find out whether the units pass 9
and whether the whole passes 99, and the correction turns `16 * hi + lo` into the digits of `10 * hi + lo`. -/
theorem decimal_sum {hi lo : Nat} (hHi : hi ≤ 18) (hLo : lo ≤ 19) :
    ((16 * hi + lo) % 256 + (if 16 * hi + lo > 0xFF ∨ (16 * hi + lo) % 256 > 0x99 then 0x60 else 0)
        + (if lo > 0x0F ∨ (16 * hi + lo) % 256 % 16 > 9 then 6 else 0)) % 256
      = (10 * hi + lo) % 100 / 10 * 16 + (10 * hi + lo) % 100 % 10 := by
  have hHundred : (16 * hi + lo > 0xFF ∨ (16 * hi + lo) % 256 > 0x99) ↔ 100 ≤ 10 * hi + lo := by omega
  have hTen : (lo > 0x0F ∨ (16 * hi + lo) % 256 % 16 > 9) ↔ 10 ≤ lo := by omega
  simp only [hHundred, hTen]
  split_ifs
  · rw [show (10 * hi + lo) % 100 = 10 * (hi - 9) + (lo - 10) by omega]; omega
  · rw [show (10 * hi + lo) % 100 = 10 * (hi - 10) + lo by omega]; omega
  · rw [show (10 * hi + lo) % 100 = 10 * (hi + 1) + (lo - 10) by omega]; omega
  · rw [show (10 * hi + lo) % 100 = 10 * hi + lo by omega]; omega

/-- `hi` and `lo` are the differences of the tens and of the units: the borrows say which of them went below 0. -/
theorem decimal_difference {hi lo : Int} (hHi : -9 ≤ hi ∧ hi ≤ 9) (hLo : -10 ≤ lo ∧ lo ≤ 9) :
    ((16 * hi + lo) % 256 - (if 16 * hi + lo < 0 then 0x60 else 0) - (if lo < 0 then 6 else 0)) % 256
      = (10 * hi + lo + 100) % 100 / 10 * 16 + (10 * hi + lo + 100) % 100 % 10 := by
  split_ifs
  · rw [show (10 * hi + lo + 100) % 100 = 10 * (hi + 9) + (lo + 10) by omega]; omega
  · rw [show (10 * hi + lo + 100) % 100 = 10 * (hi + 10) + lo by omega]; omega
  · rw [show (10 * hi + lo + 100) % 100 = 10 * (hi - 1) + (lo + 10) by omega]; omega
  · rw [show (10 * hi + lo + 100) % 100 = 10 * hi + lo by omega]; omega

/-- A binary addition of two BCD numbers, corrected, is their decimal sum with its carry. -/
theorem daa_add8_bcd {x y : Nat} (hx : x < 100) (hy : y < 100) (c : Bool) {r : AluOut}
    (hr : add8 (bcd x) (bcd y) c = r) :
    (daaOut r.value false r.h r.c).value = bcd ((x + y + c.toNat) % 100)
      ∧ (daaOut r.value false r.h r.c).c = decide (x + y + c.toNat ≥ 100) := by
  have hc := c.toNat_le
  have hA := bcd_toNat hx
  have hB := bcd_toNat hy
  obtain ⟨hi, hHi⟩ : ∃ hi, hi = x / 10 + y / 10 := ⟨_, rfl⟩
  obtain ⟨lo, hLo⟩ : ∃ lo, lo = x % 10 + y % 10 + c.toNat := ⟨_, rfl⟩
  have hBinary : (bcd x).toNat + (bcd y).toNat + c.toNat = 16 * hi + lo := by omega
  have hDecimal : x + y + c.toNat = 10 * hi + lo := by omega
  have hValue : r.value.toNat = (16 * hi + lo) % 256 := by
    rw [← hr, ← hBinary]
    exact BitVec.toNat_ofNat _ _
  have hCarry : r.c = true ↔ 16 * hi + lo > 0xFF := by
    rw [← hr, ← hBinary]
    exact decide_eq_true_iff
  have hHalf : r.h = true ↔ lo > 0x0F := by
    rw [← hr, show lo = (bcd x).toNat % 16 + (bcd y).toNat % 16 + c.toNat by omega, ← lowNibble_toNat,
      ← lowNibble_toNat]
    exact decide_eq_true_iff
  rw [hDecimal]
  constructor
  · apply eq_bcd_of_toNat (Nat.mod_lt _ (by decide))
    rw [daaOut_add_toNat]
    simp only [hHalf, hCarry, hValue]
    exact decimal_sum (by omega) (by omega)
  · rw [daaOut_add_c, decide_eq_decide, hCarry, hValue]
    omega

/-- A binary subtraction of two BCD numbers, corrected, is their decimal difference with its borrow. -/
theorem daa_sub8_bcd {x y : Nat} (hx : x < 100) (hy : y < 100) (c : Bool) {r : AluOut}
    (hr : sub8 (bcd x) (bcd y) c = r) :
    (daaOut r.value true r.h r.c).value = bcd ((x + 100 - (y + c.toNat)) % 100)
      ∧ r.c = decide (x < y + c.toNat) := by
  have hc := c.toNat_le
  have hA := bcd_toNat hx
  have hB := bcd_toNat hy
  obtain ⟨hi, hHi⟩ : ∃ hi : Int, hi = (x / 10 : Nat) - (y / 10 : Nat) := ⟨_, rfl⟩
  obtain ⟨lo, hLo⟩ : ∃ lo : Int, lo = (x % 10 : Nat) - (y % 10 : Nat) - c.toNat := ⟨_, rfl⟩
  have hBinary : ((bcd x).toNat : Int) - (bcd y).toNat - c.toNat = 16 * hi + lo := by omega
  have hDecimal : (x + 100 - (y + c.toNat) : Nat) = 10 * hi + lo + 100 := by omega
  have hValue : (r.value.toNat : Int) = (16 * hi + lo) % 256 := by
    rw [← hr, ← hBinary]
    exact sub8_difference _ _ c
  have hBorrow : r.c = true ↔ 16 * hi + lo < 0 := by
    rw [← hr, show 16 * hi + lo < 0 ↔ (bcd x).toNat < (bcd y).toNat + c.toNat by omega]
    exact decide_eq_true_iff
  have hHalf : r.h = true ↔ lo < 0 := by
    rw [← hr, show lo < 0 ↔ (bcd x).toNat % 16 < (bcd y).toNat % 16 + c.toNat by omega, ← lowNibble_toNat,
      ← lowNibble_toNat]
    exact decide_eq_true_iff
  constructor
  · apply eq_bcd_of_toNat (Nat.mod_lt _ (by decide))
    have hResult := daaOut_sub_toNat r.value r.h r.c
    simp only [hHalf, hBorrow, hValue] at hResult
    rw [decimal_difference ⟨by omega, by omega⟩ ⟨by omega, by omega⟩, ← hDecimal] at hResult
    exact_mod_cast hResult
  · rw [Bool.eq_iff_iff, hBorrow, decide_eq_true_iff]
    omega

/-- `DAA` on what an accumulator operation has put in `A` and the flags. -/
theorem alu_then_daa (s : State) (op : AluOp) (n : Byte) {r : AluOut} (hr : aluOut op s.a n s.flagC = r) :
    ∃ t u, exec (.aluD8 op n) s = .next t ∧ exec .daa t = .next u
      ∧ u.a = (daaOut r.value r.n r.h r.c).value ∧ u.flagC = (daaOut r.value r.n r.h r.c).c := by
  have hAlu : exec (.aluD8 op n) s = .next (s.putA r) := by rw [exec_aluD8, aluValue, hr]
  obtain ⟨_, hN, hH, hC, _⟩ := flagsAre_putA s r
  refine ⟨_, _, hAlu, exec_daa _, ?_, ?_⟩
  · rw [State.putA_a, State.putA_a, hN, hH, hC]
  · obtain ⟨_, _, _, hCarry, _⟩ := flagsAre_putA (s.putA r) (daaOut r.value r.n r.h r.c)
    rw [State.putA_a, hN, hH, hC, hCarry]

theorem add_then_daa (s : State) (op : AluOp) (c : Bool) (hOp : ∀ n, aluOut op s.a n s.flagC = add8 s.a n c)
    {x y : Nat} (hx : x < 100) (hy : y < 100) (hA : s.a = bcd x) :
    ∃ t u, exec (.aluD8 op (bcd y)) s = .next t ∧ exec .daa t = .next u
      ∧ u.a = bcd ((x + y + c.toNat) % 100) ∧ u.flagC = decide (x + y + c.toNat ≥ 100) := by
  obtain ⟨t, u, ht, hu, hValue, hCarry⟩ := alu_then_daa s op (bcd y) (hOp (bcd y))
  obtain ⟨hSum, hOut⟩ := daa_add8_bcd hx hy c rfl
  rw [hA] at hValue hCarry
  exact ⟨t, u, ht, hu, hValue.trans hSum, hCarry.trans hOut⟩

theorem sub_then_daa (s : State) (op : AluOp) (c : Bool) (hOp : ∀ n, aluOut op s.a n s.flagC = sub8 s.a n c)
    {x y : Nat} (hx : x < 100) (hy : y < 100) (hA : s.a = bcd x) :
    ∃ t u, exec (.aluD8 op (bcd y)) s = .next t ∧ exec .daa t = .next u
      ∧ u.a = bcd ((x + 100 - (y + c.toNat)) % 100) ∧ u.flagC = decide (x < y + c.toNat) := by
  obtain ⟨t, u, ht, hu, hValue, hBorrow⟩ := alu_then_daa s op (bcd y) (hOp (bcd y))
  obtain ⟨hDifference, hOut⟩ := daa_sub8_bcd hx hy c rfl
  rw [hA] at hValue hBorrow
  exact ⟨t, u, ht, hu, hValue.trans hDifference, hBorrow.trans hOut⟩

/-! The obligations. -/

/-- Settles O49, in its two branches (R234). -/
theorem decimalAdjustOfA : Obligations.DecimalAdjustOfA := by
  intro s
  have hFlags := flagsAre_daa s s.flagN s.flagH s.flagC
  refine ⟨_, exec_daa s, s.putA_frame _, fun hAdd => ?_, fun hSub => ?_, sameBytes_putA s _⟩
  · rw [hAdd] at hFlags ⊢
    rw [daaOut_add_c] at hFlags
    exact ⟨daaOut_add_toNat s.a s.flagH s.flagC, hFlags⟩
  · rw [hSub] at hFlags ⊢
    exact ⟨daaOut_sub_toNat s.a s.flagH s.flagC, hFlags⟩

/-- Settles O50: an immediate operation and then `DAA`, on the numbers the two digits stand for. -/
theorem decimalArithmetic : Obligations.DecimalArithmetic := by
  intro s x y hx hy hA
  exact ⟨add_then_daa s .add false (fun _ => rfl) hx hy hA, add_then_daa s .adc s.flagC (fun _ => rfl) hx hy hA,
    sub_then_daa s .sub false (fun _ => rfl) hx hy hA, sub_then_daa s .sbc s.flagC (fun _ => rfl) hx hy hA⟩

end Sys2Proof.Machine
end

section
/-! PROOFS. Jumps (O52), the stack and its round trips (O55, O56), `EI` and `DI` (O57). -/

namespace Sys2Proof.Machine

/-! Jumps (R251 to R255). -/

theorem jumpIf_taken {s : State} {cc : Cond} (h : conditionIs s cc) (w : Word) : jumpIf cc w s = jumpTo w s :=
  if_pos ((condHolds_iff s cc).2 h)

theorem jumpIf_notTaken {s : State} {cc : Cond} (h : ¬ conditionIs s cc) (w : Word) : jumpIf cc w s = .next s :=
  if_neg (mt (condHolds_iff s cc).1 h)

theorem jumpTo_relative (s : State) (e : Byte) : ∃ t, jumpTo (s.relative e) s = .next t ∧ JumpedBy s e t :=
  ⟨_, rfl, rfl, toNat_add_sext16 s.pc e⟩

/-! What `PUSH` and `POP` leave (R280 to R283). -/

theorem State.popValue_eq (s : State) : s.popValue = mkWord (s.readByte (s.sp + 1)) (s.readByte s.sp) := rfl

theorem sameBytes_pop (s : State) (p : StackPair) (v : Word) : SameBytes s (s.popped.setStackPair p v) :=
  fun a => s.popped.readByte_setStackPair p v a

/-! A push undone by a pop: only memory has changed. -/

theorem State.popped_push16 (s : State) (v : Word) : (s.push16 v).popped = s.withMemoryOf (s.push16 v) := by
  apply State.ext <;> simp [State.withMemoryOf]

/-- Storing in a pair what it holds changes nothing, but the mask of `F` (R23). -/
theorem State.setStackPair_stackPair (s m : State) (p : StackPair) :
    (s.withMemoryOf m).setStackPair p (s.stackPair p)
      = if p = .af then { s.withMemoryOf m with f := s.f &&& 0xF0 } else s.withMemoryOf m := by
  cases p <;> simp [State.setStackPair, State.stackPair, State.bc, State.de, State.hl, State.af, State.setHl,
    State.setF, State.withMemoryOf]

theorem push_then_pop {s : State} (hHigh : Holds s (s.sp - 1)) (hLow : Holds s (s.sp - 2)) (p : StackPair) :
    ∃ t u, exec (.push p) s = .next t ∧ exec (.pop p) t = .next u
      ∧ u = (if p = .af then { s.withMemoryOf u with f := s.f &&& 0xF0 } else s.withMemoryOf u) := by
  refine ⟨_, _, exec_push p s, exec_pop p _, ?_⟩
  rw [State.popValue_push16 hHigh hLow, State.popped_push16, State.setStackPair_stackPair]
  split <;> rfl

theorem call_then_ret {s : State} (hHigh : Holds s (s.sp - 1)) (hLow : Holds s (s.sp - 2)) (target : Word) :
    ∃ t u, callTo target s = .next t ∧ t.pc = target ∧ returnCall t = .next u ∧ u = s.withMemoryOf u := by
  refine ⟨_, _, rfl, rfl, rfl, ?_⟩
  have hBack : State.returnFromCall { s.push16 s.pc with pc := target }
      = { (s.push16 s.pc).popped with pc := (s.push16 s.pc).popValue } := rfl
  rw [hBack, State.popValue_push16 hHigh hLow, State.popped_push16]
  rfl

/-! The obligations. -/

/-- Settles O52: every form is `jumpTo` its target or nothing. -/
theorem jumps : Obligations.Jumps := by
  intro s w e
  refine ⟨exec_jpA16 w s, exec_jpHl s, jumpTo_relative s e, fun cc => ⟨fun h => ?_, fun h => ?_, fun h => ?_,
    fun h => ?_⟩⟩
  · rw [exec_jpCond, jumpIf_taken h]
    rfl
  · rw [exec_jpCond, jumpIf_notTaken h]
  · rw [exec_jrCond, jumpIf_taken h]
    exact jumpTo_relative s e
  · rw [exec_jrCond, jumpIf_notTaken h]

/-- Settles O55: `PUSH` is `push16`, and `POP` takes the two halves of the word at `SP`. -/
theorem pushAndPop : Obligations.PushAndPop := by
  intro s p
  refine ⟨⟨_, exec_push p s, rfl, fun b => State.readByte_push16⟩,
    ⟨_, exec_pop p s, ?_, ?_, ?_, ?_, sameBytes_pop s p _⟩⟩
  all_goals
    rintro rfl
    rw [State.popValue_eq]
    simp only [State.setStackPair, State.setHl, State.setF, hiByte_mkWord, loByte_mkWord]
    rfl

/-- Settles O56: what the push stored is popped back, so only memory has changed. -/
theorem stackRoundTrips : Obligations.StackRoundTrips := by
  intro s hHigh hLow
  refine ⟨push_then_pop hHigh hLow, call_then_ret hHigh hLow, fun n => ?_⟩
  obtain ⟨t, u, ht, _, hu, hBack⟩ := call_then_ret hHigh hLow (rstTarget n)
  exact ⟨t, u, (exec_rst n s).trans ht, hu, hBack⟩

/-- Settles O57: `EI` by whether the latch is set, and `DI` as its row of `exec` says. -/
theorem enableAndDisableInterrupts : Obligations.EnableAndDisableInterrupts :=
  fun s => ⟨exec_ei_notPending, exec_ei_pending, exec_di s⟩

end Sys2Proof.Machine
end

section
/-! PROOFS. The CB-prefixed operations (O58 to O60). -/

namespace Sys2Proof.Machine

/-! The flags of a rotate or shift (R301 to R308). -/

theorem flagsAre_rotOut (s : State) (op : RotOp) (o : Operand8) (v : Byte) (c : Bool) :
    FlagsAre (s.putOperand o (rotOut op v c)) (decide (rotValue op v c = 0)) false false (rotMovedOut op v) := by
  rw [← rotCarry_eq]
  exact flagsAre_putOperand s o (rotOut op v c)

/-! One bit of a byte (R310, R311). -/

theorem getLsbD_bitMask (b : BitNum) {i : Nat} (h : i < 8) : (bitMask b).getLsbD i = decide (i = bitIndex b) := by
  revert i
  cases b <;> decide

theorem getLsbD_clearBit (v : Byte) (b : BitNum) (i : Nat) (h : i < 8) :
    (v &&& ~~~(bitMask b)).getLsbD i = if i = bitIndex b then false else v.getLsbD i := by
  rw [BitVec.getLsbD_and, BitVec.getLsbD_not, getLsbD_bitMask b h]
  split
  next hBit => simp [hBit]
  next hOther => simp [hOther, h]

theorem getLsbD_assignBit (v : Byte) (b : BitNum) (i : Nat) (h : i < 8) :
    (v ||| bitMask b).getLsbD i = if i = bitIndex b then true else v.getLsbD i := by
  rw [BitVec.getLsbD_or, getLsbD_bitMask b h]
  split
  next hBit => simp [hBit]
  next hOther => simp [hOther]

/-- A register written with a byte that differs in one bit. -/
theorem registerBitBecomes_setReg (s : State) (r : Reg8) (b : BitNum) (x : Bool) {v : Byte}
    (hv : ∀ i, i < 8 → v.getLsbD i = if i = bitIndex b then x else (s.reg r).getLsbD i) :
    RegisterBitBecomes s r b x (s.setReg r v) := by
  refine ⟨?_, ?_, fun q => s.reg_setReg_other r q v, s.setReg_f r v, sameBytes_setReg s r v⟩
  · rw [State.reg_setReg_same]
  · rw [State.reg_setReg_same]
    exact hv

/-! The obligations. -/

/-- Settles O58: each form puts the result of `rotOut` in its operand. -/
theorem cbRotatesAndShifts : Obligations.CbRotatesAndShifts := by
  intro s op
  constructor
  · intro r
    refine ⟨_, exec_rot op (.reg r) s, s.putOperand_reg_frame r _, ?_, ?_, sameBytes_putOperand_reg s r _⟩
    · rw [State.reg_putOperand]
      exact rotValue_bits op (s.reg r) s.flagC
    · rw [State.reg_putOperand]
      exact flagsAre_rotOut s op (.reg r) (s.reg r) s.flagC
  · exact ⟨_, rotValue op (s.readByte s.hl) s.flagC, exec_rot op .atHl s, rfl, rotValue_bits op _ s.flagC,
      flagsAre_rotOut s op .atHl (s.readByte s.hl) s.flagC, readsAsBefore_putOperand_atHl s _⟩

/-- Settles O59: `BIT` is one write of the flags. -/
theorem cbBitTests : Obligations.CbBitTests :=
  fun s b o => ⟨_, exec_bit b o s, rfl, flagsAre_setFlags _ _ _ _ _, fun _ => rfl⟩

/-- Settles O60: each form writes its operand with one bit changed. -/
theorem cbBitResetAndSet : Obligations.CbBitResetAndSet := by
  intro s b
  exact ⟨fun r => ⟨_, exec_res b (.reg r) s, registerBitBecomes_setReg s r b false (getLsbD_clearBit _ b)⟩,
    ⟨_, exec_res b .atHl s, _, storeLeaves_writeByte s s.hl _, getLsbD_clearBit _ b⟩,
    fun r => ⟨_, exec_set b (.reg r) s, registerBitBecomes_setReg s r b true (getLsbD_assignBit _ b)⟩,
    ⟨_, exec_set b .atHl s, _, storeLeaves_writeByte s s.hl _, getLsbD_assignBit _ b⟩⟩

end Sys2Proof.Machine
end
